-- ==== Sys2Proof/Word.lean ====
section
/-!
DEFINITION. The word types of the block (spec/00_scope.md R11): a byte is 8 bits, a word is 16 bits. Helpers that
split, join or extend them are in Decode.lean and under Machine/.
-/

namespace Sys2Proof

/-- "A byte is 8 bits" (R11): register contents, memory bytes, instruction bytes. -/
abbrev Byte := BitVec 8

/-- "A word is 16 bits" (R11): addresses, `X`, `SP`, `PC`, `D`, the timer's registers. -/
abbrev Word := BitVec 16

end Sys2Proof
end

