-- ==== Sys2Proof/Machine/Memory.lean ====
section
/-!
DEFINITION. The cells of external memory (spec/20_memory.md R60, R61): what the environment's RAM and ROM hold, as a list
of (address, byte) pairs in one canonical form, so that equal memories are equal lists. Which address reaches which cell
is the configuration's (Config.backing; log 2).
-/

namespace Sys2Proof.Machine

/-- The cells of external memory: addresses with their bytes, in the canonical form `Memory.wf` states. -/
abbrev Memory := List Host.Cell

/-- What an address that the list does not name reads as. DESIGN CHOICE, unsafe: the spec leaves the content of
unwritten memory to the environment (R61); 0xFF is what its test vectors use (log 1). -/
def Memory.unlisted : Byte := 0xFF#8

/-- The byte at an address. -/
def Memory.read (m : Memory) (a : Word) : Byte :=
  match m with
  | [] => Memory.unlisted
  | c :: m => if c.1 = a.toNat then c.2 else Memory.read m a

/-- Places a byte, which is not the unlisted one, at an address, keeping the addresses rising. -/
def Memory.insert (m : Memory) (a : Word) (v : Byte) : Memory :=
  match m with
  | [] => [(a.toNat, v)]
  | c :: m =>
    if a.toNat < c.1 then (a.toNat, v) :: c :: m
    else if c.1 = a.toNat then (a.toNat, v) :: m
    else c :: Memory.insert m a v

/-- Writes a byte. Writing the byte that an unlisted address reads as removes the entry. -/
def Memory.write (m : Memory) (a : Word) (v : Byte) : Memory :=
  if v = Memory.unlisted then m.filter fun c => c.1 != a.toNat else m.insert a v

/-- Addresses strictly rising, from `lo` upwards and below 2^16, and no entry equal to the unlisted byte. -/
def Memory.wfFrom (lo : Nat) : Memory → Bool
  | [] => true
  | c :: m => lo ≤ c.1 && c.1 < 65536 && c.2 != Memory.unlisted && Memory.wfFrom (c.1 + 1) m

/-- The canonical form of a memory. -/
def Memory.wf (m : Memory) : Bool := Memory.wfFrom 0 m

end Sys2Proof.Machine
end

