-- ==== Sys2Proof/Config.lean ====
section
/-!
DEFINITION. What is fixed when the block is constructed (spec/00_scope.md R5), and the values the spec leaves open.

`Config` is the record of R5's parameters, as plain data. `Config.reference` holds their defaults. `DISPATCH` is given as
the slots in which it differs from the reference table of R97, which is in Decode.lean (log 17). The open values are
opaque constants: nothing in Lean can evaluate one, so no statement can rest on what one is.
-/

namespace Sys2Proof

/-- `ILLEGAL_POLICY` (R5, R99): what an illegal slot does, "a per-variant static configuration choice". -/
inductive IllegalPolicy where
  | nop
  | trap
deriving DecidableEq, Repr

/-- An entry of `DISPATCH` (R98). -/
inductive Entry where
  /-- `op(k, cycles)`: the operation and format that R97 lists at the opcode byte `slot`, and its declared cost. -/
  | op (slot : Byte) (cycles : Nat)
  /-- `illegal(cycles)`. -/
  | illegal (cycles : Nat)
  /-- "A kind the spec adds": the sources define nothing for the slot. -/
  | unspecified
deriving DecidableEq, Repr

/-- The sources a poll can return, highest priority first (R370, R372). -/
inductive Source where
  | reset
  | nmi
  | irq
  | icf
  | ocf
  | tof
  | sci
deriving DecidableEq, Repr

/-- What answers the accesses to a region of external memory, which is the environment's (R61; log 2). -/
inductive RegionKind where
  /-- RAM: the region's first address is the cell `base`, the next one the next cell. A base of its own makes a mirror. -/
  | ram (base : Word)
  /-- ROM, placed as `ram` is: "a value written is" not "later read back". -/
  | rom (base : Word)
  /-- "An address the environment does not populate". -/
  | idle
  /-- `ExtRead` and `ExtWrite` are functions of the environment's own (`Config.deviceByte`). -/
  | device
deriving DecidableEq, Repr

/-- A region of the address space outside the window, from its first to its last address. -/
structure Region where
  first : Word
  last : Word
  kind : RegionKind
deriving DecidableEq, Repr

/-- What stands behind one address (R61): a cell of RAM, a cell of ROM, nothing, or a device. -/
inductive Backing where
  | ram (cell : Word)
  | rom (cell : Word)
  | idle
  | device
deriving DecidableEq, Repr

/-- An access to an address that a device answers: when it was made (`TOTAL`), where, and the byte if it was a write. -/
structure DeviceAccess where
  time : Nat
  addr : Word
  written : Option Byte
deriving DecidableEq, Repr

/-- The construction parameters of R5. `State` carries one, and no step and no host operation changes it (R6; log 9). -/
structure Config where
  /-- `DISPATCH`, as the slots in which it differs from the reference table (R97; log 17). -/
  table : List (Byte × Entry)
  /-- `ILLEGAL_POLICY`. -/
  illegalPolicy : IllegalPolicy
  /-- `C_ILLEGAL`: cost of an illegal slot under the policy `nop`. -/
  cIllegal : Nat
  /-- `C_INT`: cost of an interrupt entry. -/
  cInt : Nat
  /-- `C_TRAP`: cost of a trap entry. -/
  cTrap : Nat
  /-- `IOBASE`: the first address of the 32-byte register window. -/
  ioBase : Word
  /-- `VEC_RESET`. -/
  vecReset : Word
  /-- `VEC_NMI`. -/
  vecNmi : Word
  /-- `VEC_IRQ`. -/
  vecIrq : Word
  /-- `VEC_ICF`. -/
  vecIcf : Word
  /-- `VEC_OCF`. -/
  vecOcf : Word
  /-- `VEC_TOF`. -/
  vecTof : Word
  /-- `VEC_SCI`. -/
  vecSci : Word
  /-- `VEC_TRAP`. -/
  vecTrap : Word
  /-- `BAUD_DIV[0]`: cycles per serial tick with `SS = 0`. -/
  baud0 : Nat
  /-- `BAUD_DIV[1]`. -/
  baud1 : Nat
  /-- `BAUD_DIV[2]`. -/
  baud2 : Nat
  /-- `BAUD_DIV[3]`. -/
  baud3 : Nat
  /-- `CL_FALLTHROUGH` (R303). -/
  clFallthrough : Bool
  /-- `HAS_D`: the variant has the 16-bit accumulator. -/
  hasD : Bool
  /-- `HAS_EXT_OPS`: the variant has the extended instructions. -/
  hasExtOps : Bool
  /-- `HAS_TIMER` (R317). -/
  hasTimer : Bool
  /-- `HAS_SCI` (R362). -/
  hasSci : Bool
  /-- `ExtRead` and `ExtWrite`, as the regions of external memory; the first region that holds an address counts, and an
  address in none of them is RAM (R61; log 2). -/
  regions : List Region
  /-- The environment's wiring, not a parameter of R5: `RXD` is wired to `TXD`, as in the loopback of R360 (log 14). -/
  loopback : Bool
deriving DecidableEq, Repr

/-- The reference configuration: the defaults of R5. -/
def Config.reference : Config where
  table := []
  illegalPolicy := .trap
  cIllegal := 5
  cInt := 12
  cTrap := 12
  ioBase := 0x0000#16
  vecReset := 0xFFFE#16
  vecNmi := 0xFFFC#16
  vecIrq := 0xFFF8#16
  vecIcf := 0xFFF6#16
  vecOcf := 0xFFF4#16
  vecTof := 0xFFF2#16
  vecSci := 0xFFF0#16
  vecTrap := 0xFFEE#16
  baud0 := 16
  baud1 := 128
  baud2 := 1024
  baud3 := 4096
  clFallthrough := true
  hasD := true
  hasExtOps := true
  hasTimer := true
  hasSci := true
  regions := []
  loopback := false

/-- Whether an address lies in a region. -/
def Region.holds (r : Region) (addr : Word) : Bool := decide (r.first.toNat ≤ addr.toNat) && decide (addr.toNat ≤ r.last.toNat)

/-- What stands behind an address of a region. -/
def Region.backing (r : Region) (addr : Word) : Backing :=
  match r.kind with
  | .ram base => .ram (base + (addr - r.first))
  | .rom base => .rom (base + (addr - r.first))
  | .idle => .idle
  | .device => .device

/-- What stands behind an address in the environment (R61). -/
def Config.backing (c : Config) (addr : Word) : Backing :=
  match c.regions.find? fun r => r.holds addr with
  | some r => r.backing addr
  | none => .ram addr

/-- The vector of a source (R370). -/
def Config.vec (c : Config) : Source → Word
  | .reset => c.vecReset
  | .nmi => c.vecNmi
  | .irq => c.vecIrq
  | .icf => c.vecIcf
  | .ocf => c.vecOcf
  | .tof => c.vecTof
  | .sci => c.vecSci

/-- `IDLE_BUS` (R5, R66; U11): OPEN, "none" is its default. What a read of an unpopulated address
and of the write-only register `TDR` returns. DESIGN CHOICE, safe (log 3). -/
opaque Config.idleBus : Byte

/-- `ExtRead` of a device (R61): an unknown function of every access made to devices so far, latest first, of the time
(`TOTAL`) and of the address, so that a read need not be idempotent and a value written need not be read back. DESIGN
CHOICE, safe (log 2). -/
opaque Config.deviceByte : List DeviceAccess → Nat → Word → Byte

/-- A free bit: the `n`-th flag value the spec leaves without a value (`V` after DAA, R165; the flags after a reset,
R50). Log 5, log 7. -/
opaque Config.freeFlag : Nat → Bool

/-- A free byte: an 8-bit register a reset leaves unspecified (R50). Log 5. -/
opaque Config.freeByte : Nat → Byte

/-- A free word: a 16-bit register a reset leaves unspecified (R50). Log 5. -/
opaque Config.freeWord : Nat → Word

end Sys2Proof
end

