-- ==== Sys2Proof/Syntax.lean ====
section
/-!
DEFINITION. The instructions of the block: one constructor per row of spec/opcode_table.json (spec/30_encoding.md R97,
153 `op` slots and 3 `illegal` slots), with the operand bytes of the row's format (R91). An operand is named as R91 names
its bytes: `ii` an 8-bit immediate or mask, `jjkk` a 16-bit immediate, `dd` a direct address byte, `ff` an unsigned index
offset, `hhll` an absolute address, `rr` a signed branch offset. "Operand bytes have no reserved values" (R101), so the
types admit exactly the operands the encoding admits.
-/

namespace Sys2Proof

/-- An instruction: an operation together with its addressing mode and its operand bytes. -/
inductive Instr where
  /-- ILLEGAL_00 INH, opcode 0x00, 1 byte (R273). -/
  | illegal00
  /-- NOP INH, opcode 0x01, 1 byte (R251). -/
  | nop
  /-- ILLEGAL_02 INH, opcode 0x02, 1 byte (R273). -/
  | illegal02
  /-- ILLEGAL_03 INH, opcode 0x03, 1 byte (R273). -/
  | illegal03
  /-- LSRD INH, opcode 0x04, 1 byte (R197). -/
  | lsrd
  /-- ASLD INH, opcode 0x05, 1 byte (R196). -/
  | asld
  /-- TAP INH, opcode 0x06, 1 byte (R252). -/
  | tap
  /-- TPA INH, opcode 0x07, 1 byte (R253). -/
  | tpa
  /-- INX INH, opcode 0x08, 1 byte (R171). -/
  | inx
  /-- DEX INH, opcode 0x09, 1 byte (R172). -/
  | dex
  /-- CLV INH, opcode 0x0A, 1 byte (R254). -/
  | clv
  /-- SEV INH, opcode 0x0B, 1 byte (R255). -/
  | sev
  /-- CLC INH, opcode 0x0C, 1 byte (R256). -/
  | clc
  /-- SEC INH, opcode 0x0D, 1 byte (R257). -/
  | sec
  /-- CLI INH, opcode 0x0E, 1 byte (R258). -/
  | cli
  /-- SEI INH, opcode 0x0F, 1 byte (R259). -/
  | sei
  /-- DAA INH, opcode 0x19, 1 byte (R165). -/
  | daa
  /-- SLP INH, opcode 0x1A, 1 byte (R271). -/
  | slp
  /-- BRA REL, opcode 0x20, 2 bytes (R231). -/
  | bra (rr : Byte)
  /-- BRN REL, opcode 0x21, 2 bytes (R232). -/
  | brn (rr : Byte)
  /-- BHI REL, opcode 0x22, 2 bytes (R233). -/
  | bhi (rr : Byte)
  /-- BLS REL, opcode 0x23, 2 bytes (R234). -/
  | bls (rr : Byte)
  /-- BCC REL, opcode 0x24, 2 bytes (R235). -/
  | bcc (rr : Byte)
  /-- BCS REL, opcode 0x25, 2 bytes (R236). -/
  | bcs (rr : Byte)
  /-- BNE REL, opcode 0x26, 2 bytes (R237). -/
  | bne (rr : Byte)
  /-- BEQ REL, opcode 0x27, 2 bytes (R238). -/
  | beq (rr : Byte)
  /-- BVC REL, opcode 0x28, 2 bytes (R239). -/
  | bvc (rr : Byte)
  /-- BVS REL, opcode 0x29, 2 bytes (R240). -/
  | bvs (rr : Byte)
  /-- BPL REL, opcode 0x2A, 2 bytes (R241). -/
  | bpl (rr : Byte)
  /-- BMI REL, opcode 0x2B, 2 bytes (R242). -/
  | bmi (rr : Byte)
  /-- BGE REL, opcode 0x2C, 2 bytes (R243). -/
  | bge (rr : Byte)
  /-- BLT REL, opcode 0x2D, 2 bytes (R244). -/
  | blt (rr : Byte)
  /-- BGT REL, opcode 0x2E, 2 bytes (R245). -/
  | bgt (rr : Byte)
  /-- BLE REL, opcode 0x2F, 2 bytes (R246). -/
  | ble (rr : Byte)
  /-- RTS INH, opcode 0x39, 1 byte (R250). -/
  | rts
  /-- RTI INH, opcode 0x3B, 1 byte (R272). -/
  | rti
  /-- MUL INH, opcode 0x3D, 1 byte (R166). -/
  | mul
  /-- WAI INH, opcode 0x3E, 1 byte (R270). -/
  | wai
  /-- LSRA INH, opcode 0x44, 1 byte (R187). -/
  | lsra
  /-- RORA INH, opcode 0x46, 1 byte (R193). -/
  | rora
  /-- ASRA INH, opcode 0x47, 1 byte (R184). -/
  | asra
  /-- ASLA INH, opcode 0x48, 1 byte (R181). -/
  | asla
  /-- ROLA INH, opcode 0x49, 1 byte (R190). -/
  | rola
  /-- DECA INH, opcode 0x4A, 1 byte (R169). -/
  | deca
  /-- INCA INH, opcode 0x4C, 1 byte (R167). -/
  | inca
  /-- LSRB INH, opcode 0x54, 1 byte (R188). -/
  | lsrb
  /-- RORB INH, opcode 0x56, 1 byte (R194). -/
  | rorb
  /-- ASRB INH, opcode 0x57, 1 byte (R185). -/
  | asrb
  /-- ASLB INH, opcode 0x58, 1 byte (R182). -/
  | aslb
  /-- ROLB INH, opcode 0x59, 1 byte (R191). -/
  | rolb
  /-- DECB INH, opcode 0x5A, 1 byte (R170). -/
  | decb
  /-- INCB INH, opcode 0x5C, 1 byte (R168). -/
  | incb
  /-- AIM IMX, opcode 0x61, 3 bytes (R201). -/
  | aimIdx (ii ff : Byte)
  /-- OIM IMX, opcode 0x62, 3 bytes (R202). -/
  | oimIdx (ii ff : Byte)
  /-- LSR IDX, opcode 0x64, 2 bytes (R189). -/
  | lsrIdx (ff : Byte)
  /-- EIM IMX, opcode 0x65, 3 bytes (R203). -/
  | eimIdx (ii ff : Byte)
  /-- ROR IDX, opcode 0x66, 2 bytes (R195). -/
  | rorIdx (ff : Byte)
  /-- ASR IDX, opcode 0x67, 2 bytes (R186). -/
  | asrIdx (ff : Byte)
  /-- ASL IDX, opcode 0x68, 2 bytes (R183). -/
  | aslIdx (ff : Byte)
  /-- ROL IDX, opcode 0x69, 2 bytes (R192). -/
  | rolIdx (ff : Byte)
  /-- TIM IMX, opcode 0x6B, 3 bytes (R204). -/
  | timIdx (ii ff : Byte)
  /-- JMP IDX, opcode 0x6E, 2 bytes (R247). -/
  | jmpIdx (ff : Byte)
  /-- AIM IMD, opcode 0x71, 3 bytes (R201). -/
  | aimDir (ii dd : Byte)
  /-- OIM IMD, opcode 0x72, 3 bytes (R202). -/
  | oimDir (ii dd : Byte)
  /-- LSR EXT, opcode 0x74, 3 bytes (R189). -/
  | lsrExt (hhll : Word)
  /-- EIM IMD, opcode 0x75, 3 bytes (R203). -/
  | eimDir (ii dd : Byte)
  /-- ROR EXT, opcode 0x76, 3 bytes (R195). -/
  | rorExt (hhll : Word)
  /-- ASR EXT, opcode 0x77, 3 bytes (R186). -/
  | asrExt (hhll : Word)
  /-- ASL EXT, opcode 0x78, 3 bytes (R183). -/
  | aslExt (hhll : Word)
  /-- ROL EXT, opcode 0x79, 3 bytes (R192). -/
  | rolExt (hhll : Word)
  /-- TIM IMD, opcode 0x7B, 3 bytes (R204). -/
  | timDir (ii dd : Byte)
  /-- JMP EXT, opcode 0x7E, 3 bytes (R247). -/
  | jmpExt (hhll : Word)
  /-- SUBA IMM8, opcode 0x80, 2 bytes (R157). -/
  | subaImm (ii : Byte)
  /-- CMPA IMM8, opcode 0x81, 2 bytes (R161). -/
  | cmpaImm (ii : Byte)
  /-- SBCA IMM8, opcode 0x82, 2 bytes (R159). -/
  | sbcaImm (ii : Byte)
  /-- SUBD IMM16, opcode 0x83, 3 bytes (R164). -/
  | subdImm (jjkk : Word)
  /-- LDAA IMM8, opcode 0x86, 2 bytes (R211). -/
  | ldaaImm (ii : Byte)
  /-- ADCA IMM8, opcode 0x89, 2 bytes (R155). -/
  | adcaImm (ii : Byte)
  /-- ADDA IMM8, opcode 0x8B, 2 bytes (R153). -/
  | addaImm (ii : Byte)
  /-- BSR REL, opcode 0x8D, 2 bytes (R249). -/
  | bsr (rr : Byte)
  /-- LDS IMM16, opcode 0x8E, 3 bytes (R219). -/
  | ldsImm (jjkk : Word)
  /-- SUBA DIR, opcode 0x90, 2 bytes (R157). -/
  | subaDir (dd : Byte)
  /-- CMPA DIR, opcode 0x91, 2 bytes (R161). -/
  | cmpaDir (dd : Byte)
  /-- SBCA DIR, opcode 0x92, 2 bytes (R159). -/
  | sbcaDir (dd : Byte)
  /-- SUBD DIR, opcode 0x93, 2 bytes (R164). -/
  | subdDir (dd : Byte)
  /-- LDAA DIR, opcode 0x96, 2 bytes (R211). -/
  | ldaaDir (dd : Byte)
  /-- STAA DIR, opcode 0x97, 2 bytes (R213). -/
  | staaDir (dd : Byte)
  /-- ADCA DIR, opcode 0x99, 2 bytes (R155). -/
  | adcaDir (dd : Byte)
  /-- ADDA DIR, opcode 0x9B, 2 bytes (R153). -/
  | addaDir (dd : Byte)
  /-- JSR DIR, opcode 0x9D, 2 bytes (R248). -/
  | jsrDir (dd : Byte)
  /-- LDS DIR, opcode 0x9E, 2 bytes (R219). -/
  | ldsDir (dd : Byte)
  /-- SUBA IDX, opcode 0xA0, 2 bytes (R157). -/
  | subaIdx (ff : Byte)
  /-- CMPA IDX, opcode 0xA1, 2 bytes (R161). -/
  | cmpaIdx (ff : Byte)
  /-- SBCA IDX, opcode 0xA2, 2 bytes (R159). -/
  | sbcaIdx (ff : Byte)
  /-- SUBD IDX, opcode 0xA3, 2 bytes (R164). -/
  | subdIdx (ff : Byte)
  /-- LDAA IDX, opcode 0xA6, 2 bytes (R211). -/
  | ldaaIdx (ff : Byte)
  /-- STAA IDX, opcode 0xA7, 2 bytes (R213). -/
  | staaIdx (ff : Byte)
  /-- ADCA IDX, opcode 0xA9, 2 bytes (R155). -/
  | adcaIdx (ff : Byte)
  /-- ADDA IDX, opcode 0xAB, 2 bytes (R153). -/
  | addaIdx (ff : Byte)
  /-- JSR IDX, opcode 0xAD, 2 bytes (R248). -/
  | jsrIdx (ff : Byte)
  /-- LDS IDX, opcode 0xAE, 2 bytes (R219). -/
  | ldsIdx (ff : Byte)
  /-- SUBA EXT, opcode 0xB0, 3 bytes (R157). -/
  | subaExt (hhll : Word)
  /-- CMPA EXT, opcode 0xB1, 3 bytes (R161). -/
  | cmpaExt (hhll : Word)
  /-- SBCA EXT, opcode 0xB2, 3 bytes (R159). -/
  | sbcaExt (hhll : Word)
  /-- SUBD EXT, opcode 0xB3, 3 bytes (R164). -/
  | subdExt (hhll : Word)
  /-- LDAA EXT, opcode 0xB6, 3 bytes (R211). -/
  | ldaaExt (hhll : Word)
  /-- STAA EXT, opcode 0xB7, 3 bytes (R213). -/
  | staaExt (hhll : Word)
  /-- ADCA EXT, opcode 0xB9, 3 bytes (R155). -/
  | adcaExt (hhll : Word)
  /-- ADDA EXT, opcode 0xBB, 3 bytes (R153). -/
  | addaExt (hhll : Word)
  /-- JSR EXT, opcode 0xBD, 3 bytes (R248). -/
  | jsrExt (hhll : Word)
  /-- LDS EXT, opcode 0xBE, 3 bytes (R219). -/
  | ldsExt (hhll : Word)
  /-- SUBB IMM8, opcode 0xC0, 2 bytes (R158). -/
  | subbImm (ii : Byte)
  /-- CMPB IMM8, opcode 0xC1, 2 bytes (R162). -/
  | cmpbImm (ii : Byte)
  /-- SBCB IMM8, opcode 0xC2, 2 bytes (R160). -/
  | sbcbImm (ii : Byte)
  /-- ADDD IMM16, opcode 0xC3, 3 bytes (R163). -/
  | adddImm (jjkk : Word)
  /-- LDAB IMM8, opcode 0xC6, 2 bytes (R212). -/
  | ldabImm (ii : Byte)
  /-- ADCB IMM8, opcode 0xC9, 2 bytes (R156). -/
  | adcbImm (ii : Byte)
  /-- ADDB IMM8, opcode 0xCB, 2 bytes (R154). -/
  | addbImm (ii : Byte)
  /-- LDD IMM16, opcode 0xCC, 3 bytes (R215). -/
  | lddImm (jjkk : Word)
  /-- LDX IMM16, opcode 0xCE, 3 bytes (R217). -/
  | ldxImm (jjkk : Word)
  /-- SUBB DIR, opcode 0xD0, 2 bytes (R158). -/
  | subbDir (dd : Byte)
  /-- CMPB DIR, opcode 0xD1, 2 bytes (R162). -/
  | cmpbDir (dd : Byte)
  /-- SBCB DIR, opcode 0xD2, 2 bytes (R160). -/
  | sbcbDir (dd : Byte)
  /-- ADDD DIR, opcode 0xD3, 2 bytes (R163). -/
  | adddDir (dd : Byte)
  /-- LDAB DIR, opcode 0xD6, 2 bytes (R212). -/
  | ldabDir (dd : Byte)
  /-- STAB DIR, opcode 0xD7, 2 bytes (R214). -/
  | stabDir (dd : Byte)
  /-- ADCB DIR, opcode 0xD9, 2 bytes (R156). -/
  | adcbDir (dd : Byte)
  /-- ADDB DIR, opcode 0xDB, 2 bytes (R154). -/
  | addbDir (dd : Byte)
  /-- LDD DIR, opcode 0xDC, 2 bytes (R215). -/
  | lddDir (dd : Byte)
  /-- STD DIR, opcode 0xDD, 2 bytes (R216). -/
  | stdDir (dd : Byte)
  /-- LDX DIR, opcode 0xDE, 2 bytes (R217). -/
  | ldxDir (dd : Byte)
  /-- STX DIR, opcode 0xDF, 2 bytes (R218). -/
  | stxDir (dd : Byte)
  /-- SUBB IDX, opcode 0xE0, 2 bytes (R158). -/
  | subbIdx (ff : Byte)
  /-- CMPB IDX, opcode 0xE1, 2 bytes (R162). -/
  | cmpbIdx (ff : Byte)
  /-- SBCB IDX, opcode 0xE2, 2 bytes (R160). -/
  | sbcbIdx (ff : Byte)
  /-- ADDD IDX, opcode 0xE3, 2 bytes (R163). -/
  | adddIdx (ff : Byte)
  /-- LDAB IDX, opcode 0xE6, 2 bytes (R212). -/
  | ldabIdx (ff : Byte)
  /-- STAB IDX, opcode 0xE7, 2 bytes (R214). -/
  | stabIdx (ff : Byte)
  /-- ADCB IDX, opcode 0xE9, 2 bytes (R156). -/
  | adcbIdx (ff : Byte)
  /-- ADDB IDX, opcode 0xEB, 2 bytes (R154). -/
  | addbIdx (ff : Byte)
  /-- LDD IDX, opcode 0xEC, 2 bytes (R215). -/
  | lddIdx (ff : Byte)
  /-- STD IDX, opcode 0xED, 2 bytes (R216). -/
  | stdIdx (ff : Byte)
  /-- LDX IDX, opcode 0xEE, 2 bytes (R217). -/
  | ldxIdx (ff : Byte)
  /-- STX IDX, opcode 0xEF, 2 bytes (R218). -/
  | stxIdx (ff : Byte)
  /-- SUBB EXT, opcode 0xF0, 3 bytes (R158). -/
  | subbExt (hhll : Word)
  /-- CMPB EXT, opcode 0xF1, 3 bytes (R162). -/
  | cmpbExt (hhll : Word)
  /-- SBCB EXT, opcode 0xF2, 3 bytes (R160). -/
  | sbcbExt (hhll : Word)
  /-- ADDD EXT, opcode 0xF3, 3 bytes (R163). -/
  | adddExt (hhll : Word)
  /-- LDAB EXT, opcode 0xF6, 3 bytes (R212). -/
  | ldabExt (hhll : Word)
  /-- STAB EXT, opcode 0xF7, 3 bytes (R214). -/
  | stabExt (hhll : Word)
  /-- ADCB EXT, opcode 0xF9, 3 bytes (R156). -/
  | adcbExt (hhll : Word)
  /-- ADDB EXT, opcode 0xFB, 3 bytes (R154). -/
  | addbExt (hhll : Word)
  /-- LDD EXT, opcode 0xFC, 3 bytes (R215). -/
  | lddExt (hhll : Word)
  /-- STD EXT, opcode 0xFD, 3 bytes (R216). -/
  | stdExt (hhll : Word)
  /-- LDX EXT, opcode 0xFE, 3 bytes (R217). -/
  | ldxExt (hhll : Word)
  /-- STX EXT, opcode 0xFF, 3 bytes (R218). -/
  | stxExt (hhll : Word)
deriving DecidableEq, Repr

end Sys2Proof
end

