-- ==== Sys2Proof/Decode.lean ====
section
/-!
DEFINITION. Decoding and encoding (spec/30_encoding.md).

`dispatchTable` is the reference table of R97, one row per defined slot with its opcode byte, its declared cycles and
its format; the slots with no row are `unspecified` (R100). `decode` reads one instruction from the front of a list of
bytes; `encode` writes an instruction's bytes. The byte-order helpers of R64 are here too.
-/

namespace Sys2Proof

/-- `v[15:8]`. -/
def hiByte (w : Word) : Byte := w.extractLsb' 8 8

/-- `v[7:0]`. -/
def loByte (w : Word) : Byte := w.extractLsb' 0 8

/-- `{h, l}`: two bytes as a word, the high byte first (R11, R64). -/
def joinBytes (h l : Byte) : Word := h ++ l

/-- The formats of R91, each with the instruction that its operand bytes make. `illegal` is an INH slot that R98 calls
`illegal(cycles)`. -/
inductive Slot where
  | illegal (i : Instr)
  | inh (i : Instr)
  | imm8 (f : Byte → Instr)
  | imm16 (f : Word → Instr)
  | dir (f : Byte → Instr)
  | idx (f : Byte → Instr)
  | ext (f : Word → Instr)
  | rel (f : Byte → Instr)
  | imd (f : Byte → Byte → Instr)
  | imx (f : Byte → Byte → Instr)

/-- One row of R97: the opcode byte, the declared cycles, the operation and its format. -/
structure Row where
  opcode : Nat
  cycles : Nat
  slot : Slot

/-- R97, opcodes 0x00 to 0x0F. -/
def tableRow0 : List Row := [
  ⟨0x00, 5, .illegal .illegal00⟩,
  ⟨0x01, 1, .inh .nop⟩,
  ⟨0x02, 5, .illegal .illegal02⟩,
  ⟨0x03, 5, .illegal .illegal03⟩,
  ⟨0x04, 1, .inh .lsrd⟩,
  ⟨0x05, 1, .inh .asld⟩,
  ⟨0x06, 1, .inh .tap⟩,
  ⟨0x07, 1, .inh .tpa⟩,
  ⟨0x08, 1, .inh .inx⟩,
  ⟨0x09, 1, .inh .dex⟩,
  ⟨0x0A, 1, .inh .clv⟩,
  ⟨0x0B, 1, .inh .sev⟩,
  ⟨0x0C, 1, .inh .clc⟩,
  ⟨0x0D, 1, .inh .sec⟩,
  ⟨0x0E, 1, .inh .cli⟩,
  ⟨0x0F, 1, .inh .sei⟩]

/-- R97, opcodes 0x10 to 0x1F. -/
def tableRow1 : List Row := [
  ⟨0x19, 2, .inh .daa⟩,
  ⟨0x1A, 4, .inh .slp⟩]

/-- R97, opcodes 0x20 to 0x2F. -/
def tableRow2 : List Row := [
  ⟨0x20, 3, .rel .bra⟩,
  ⟨0x21, 3, .rel .brn⟩,
  ⟨0x22, 3, .rel .bhi⟩,
  ⟨0x23, 3, .rel .bls⟩,
  ⟨0x24, 3, .rel .bcc⟩,
  ⟨0x25, 3, .rel .bcs⟩,
  ⟨0x26, 3, .rel .bne⟩,
  ⟨0x27, 3, .rel .beq⟩,
  ⟨0x28, 3, .rel .bvc⟩,
  ⟨0x29, 3, .rel .bvs⟩,
  ⟨0x2A, 3, .rel .bpl⟩,
  ⟨0x2B, 3, .rel .bmi⟩,
  ⟨0x2C, 3, .rel .bge⟩,
  ⟨0x2D, 3, .rel .blt⟩,
  ⟨0x2E, 3, .rel .bgt⟩,
  ⟨0x2F, 3, .rel .ble⟩]

/-- R97, opcodes 0x30 to 0x3F. -/
def tableRow3 : List Row := [
  ⟨0x39, 5, .inh .rts⟩,
  ⟨0x3B, 10, .inh .rti⟩,
  ⟨0x3D, 7, .inh .mul⟩,
  ⟨0x3E, 9, .inh .wai⟩]

/-- R97, opcodes 0x40 to 0x4F. -/
def tableRow4 : List Row := [
  ⟨0x44, 1, .inh .lsra⟩,
  ⟨0x46, 1, .inh .rora⟩,
  ⟨0x47, 1, .inh .asra⟩,
  ⟨0x48, 1, .inh .asla⟩,
  ⟨0x49, 1, .inh .rola⟩,
  ⟨0x4A, 1, .inh .deca⟩,
  ⟨0x4C, 1, .inh .inca⟩]

/-- R97, opcodes 0x50 to 0x5F. -/
def tableRow5 : List Row := [
  ⟨0x54, 1, .inh .lsrb⟩,
  ⟨0x56, 1, .inh .rorb⟩,
  ⟨0x57, 1, .inh .asrb⟩,
  ⟨0x58, 1, .inh .aslb⟩,
  ⟨0x59, 1, .inh .rolb⟩,
  ⟨0x5A, 1, .inh .decb⟩,
  ⟨0x5C, 1, .inh .incb⟩]

/-- R97, opcodes 0x60 to 0x6F. -/
def tableRow6 : List Row := [
  ⟨0x61, 7, .imx .aimIdx⟩,
  ⟨0x62, 7, .imx .oimIdx⟩,
  ⟨0x64, 6, .idx .lsrIdx⟩,
  ⟨0x65, 7, .imx .eimIdx⟩,
  ⟨0x66, 6, .idx .rorIdx⟩,
  ⟨0x67, 6, .idx .asrIdx⟩,
  ⟨0x68, 6, .idx .aslIdx⟩,
  ⟨0x69, 6, .idx .rolIdx⟩,
  ⟨0x6B, 5, .imx .timIdx⟩,
  ⟨0x6E, 3, .idx .jmpIdx⟩]

/-- R97, opcodes 0x70 to 0x7F. -/
def tableRow7 : List Row := [
  ⟨0x71, 6, .imd .aimDir⟩,
  ⟨0x72, 6, .imd .oimDir⟩,
  ⟨0x74, 6, .ext .lsrExt⟩,
  ⟨0x75, 6, .imd .eimDir⟩,
  ⟨0x76, 6, .ext .rorExt⟩,
  ⟨0x77, 6, .ext .asrExt⟩,
  ⟨0x78, 6, .ext .aslExt⟩,
  ⟨0x79, 6, .ext .rolExt⟩,
  ⟨0x7B, 4, .imd .timDir⟩,
  ⟨0x7E, 3, .ext .jmpExt⟩]

/-- R97, opcodes 0x80 to 0x8F. -/
def tableRow8 : List Row := [
  ⟨0x80, 2, .imm8 .subaImm⟩,
  ⟨0x81, 2, .imm8 .cmpaImm⟩,
  ⟨0x82, 2, .imm8 .sbcaImm⟩,
  ⟨0x83, 3, .imm16 .subdImm⟩,
  ⟨0x86, 2, .imm8 .ldaaImm⟩,
  ⟨0x89, 2, .imm8 .adcaImm⟩,
  ⟨0x8B, 2, .imm8 .addaImm⟩,
  ⟨0x8D, 5, .rel .bsr⟩,
  ⟨0x8E, 3, .imm16 .ldsImm⟩]

/-- R97, opcodes 0x90 to 0x9F. -/
def tableRow9 : List Row := [
  ⟨0x90, 3, .dir .subaDir⟩,
  ⟨0x91, 3, .dir .cmpaDir⟩,
  ⟨0x92, 3, .dir .sbcaDir⟩,
  ⟨0x93, 4, .dir .subdDir⟩,
  ⟨0x96, 3, .dir .ldaaDir⟩,
  ⟨0x97, 3, .dir .staaDir⟩,
  ⟨0x99, 3, .dir .adcaDir⟩,
  ⟨0x9B, 3, .dir .addaDir⟩,
  ⟨0x9D, 5, .dir .jsrDir⟩,
  ⟨0x9E, 4, .dir .ldsDir⟩]

/-- R97, opcodes 0xA0 to 0xAF. -/
def tableRowA : List Row := [
  ⟨0xA0, 4, .idx .subaIdx⟩,
  ⟨0xA1, 4, .idx .cmpaIdx⟩,
  ⟨0xA2, 4, .idx .sbcaIdx⟩,
  ⟨0xA3, 5, .idx .subdIdx⟩,
  ⟨0xA6, 4, .idx .ldaaIdx⟩,
  ⟨0xA7, 4, .idx .staaIdx⟩,
  ⟨0xA9, 4, .idx .adcaIdx⟩,
  ⟨0xAB, 4, .idx .addaIdx⟩,
  ⟨0xAD, 5, .idx .jsrIdx⟩,
  ⟨0xAE, 5, .idx .ldsIdx⟩]

/-- R97, opcodes 0xB0 to 0xBF. -/
def tableRowB : List Row := [
  ⟨0xB0, 4, .ext .subaExt⟩,
  ⟨0xB1, 4, .ext .cmpaExt⟩,
  ⟨0xB2, 4, .ext .sbcaExt⟩,
  ⟨0xB3, 5, .ext .subdExt⟩,
  ⟨0xB6, 4, .ext .ldaaExt⟩,
  ⟨0xB7, 4, .ext .staaExt⟩,
  ⟨0xB9, 4, .ext .adcaExt⟩,
  ⟨0xBB, 4, .ext .addaExt⟩,
  ⟨0xBD, 6, .ext .jsrExt⟩,
  ⟨0xBE, 5, .ext .ldsExt⟩]

/-- R97, opcodes 0xC0 to 0xCF. -/
def tableRowC : List Row := [
  ⟨0xC0, 2, .imm8 .subbImm⟩,
  ⟨0xC1, 2, .imm8 .cmpbImm⟩,
  ⟨0xC2, 2, .imm8 .sbcbImm⟩,
  ⟨0xC3, 3, .imm16 .adddImm⟩,
  ⟨0xC6, 2, .imm8 .ldabImm⟩,
  ⟨0xC9, 2, .imm8 .adcbImm⟩,
  ⟨0xCB, 2, .imm8 .addbImm⟩,
  ⟨0xCC, 3, .imm16 .lddImm⟩,
  ⟨0xCE, 3, .imm16 .ldxImm⟩]

/-- R97, opcodes 0xD0 to 0xDF. -/
def tableRowD : List Row := [
  ⟨0xD0, 3, .dir .subbDir⟩,
  ⟨0xD1, 3, .dir .cmpbDir⟩,
  ⟨0xD2, 3, .dir .sbcbDir⟩,
  ⟨0xD3, 4, .dir .adddDir⟩,
  ⟨0xD6, 3, .dir .ldabDir⟩,
  ⟨0xD7, 3, .dir .stabDir⟩,
  ⟨0xD9, 3, .dir .adcbDir⟩,
  ⟨0xDB, 3, .dir .addbDir⟩,
  ⟨0xDC, 4, .dir .lddDir⟩,
  ⟨0xDD, 4, .dir .stdDir⟩,
  ⟨0xDE, 4, .dir .ldxDir⟩,
  ⟨0xDF, 4, .dir .stxDir⟩]

/-- R97, opcodes 0xE0 to 0xEF. -/
def tableRowE : List Row := [
  ⟨0xE0, 4, .idx .subbIdx⟩,
  ⟨0xE1, 4, .idx .cmpbIdx⟩,
  ⟨0xE2, 4, .idx .sbcbIdx⟩,
  ⟨0xE3, 5, .idx .adddIdx⟩,
  ⟨0xE6, 4, .idx .ldabIdx⟩,
  ⟨0xE7, 4, .idx .stabIdx⟩,
  ⟨0xE9, 4, .idx .adcbIdx⟩,
  ⟨0xEB, 4, .idx .addbIdx⟩,
  ⟨0xEC, 5, .idx .lddIdx⟩,
  ⟨0xED, 5, .idx .stdIdx⟩,
  ⟨0xEE, 5, .idx .ldxIdx⟩,
  ⟨0xEF, 5, .idx .stxIdx⟩]

/-- R97, opcodes 0xF0 to 0xFF. -/
def tableRowF : List Row := [
  ⟨0xF0, 4, .ext .subbExt⟩,
  ⟨0xF1, 4, .ext .cmpbExt⟩,
  ⟨0xF2, 4, .ext .sbcbExt⟩,
  ⟨0xF3, 5, .ext .adddExt⟩,
  ⟨0xF6, 4, .ext .ldabExt⟩,
  ⟨0xF7, 4, .ext .stabExt⟩,
  ⟨0xF9, 4, .ext .adcbExt⟩,
  ⟨0xFB, 4, .ext .addbExt⟩,
  ⟨0xFC, 5, .ext .lddExt⟩,
  ⟨0xFD, 5, .ext .stdExt⟩,
  ⟨0xFE, 5, .ext .ldxExt⟩,
  ⟨0xFF, 5, .ext .stxExt⟩]

/-- The reference dispatch table (R97): 156 rows; the other 100 slots are `unspecified` (R100). -/
def dispatchTable : List Row :=
  tableRow0 ++ tableRow1 ++ tableRow2 ++ tableRow3 ++ tableRow4 ++ tableRow5 ++ tableRow6 ++ tableRow7 ++
  tableRow8 ++ tableRow9 ++ tableRowA ++ tableRowB ++ tableRowC ++ tableRowD ++ tableRowE ++ tableRowF

/-- `DISPATCH[op]`: "a pure function of the opcode byte" (R124); `none` for an unspecified slot. -/
def rowOf (op : Byte) : Option Row := dispatchTable.find? fun r => r.opcode == op.toNat

/-- The length of an instruction of a format, opcode byte included (R91). -/
def Slot.length : Slot → Nat
  | .illegal _ | .inh _ => 1
  | .imm8 _ | .dir _ | .idx _ | .rel _ => 2
  | .imm16 _ | .ext _ | .imd _ | .imx _ => 3

/-- Whether a format's slot is one that R97 calls `illegal`. -/
def Slot.isIllegal : Slot → Bool
  | .illegal _ => true
  | .inh _ | .imm8 _ | .imm16 _ | .dir _ | .idx _ | .ext _ | .rel _ | .imd _ | .imx _ => false

/-- "The opcode byte alone tells a decoder the instruction's length" (R90). -/
def lengthOf (op : Byte) : Option Nat := (rowOf op).map fun r => r.slot.length

/-- Why `decode` refuses. -/
inductive DecodeError where
  /-- There is no byte to decode. -/
  | noBytes
  /-- The slot of this opcode is `unspecified` (R100, R275). -/
  | unspecifiedSlot (op : Byte)
  /-- Operand bytes of this opcode are missing. -/
  | truncated (op : Byte)
deriving DecidableEq, Repr

/-- Takes a format's operand bytes from the front of `bs`, high byte first (R91, R93, R94, R96). -/
def Slot.operands (s : Slot) (bs : List Byte) : Option (Instr × List Byte) :=
  match s, bs with
  | .illegal i, bs => some (i, bs)
  | .inh i, bs => some (i, bs)
  | .imm8 f, b :: bs => some (f b, bs)
  | .dir f, b :: bs => some (f b, bs)
  | .idx f, b :: bs => some (f b, bs)
  | .rel f, b :: bs => some (f b, bs)
  | .imm16 f, h :: l :: bs => some (f (joinBytes h l), bs)
  | .ext f, h :: l :: bs => some (f (joinBytes h l), bs)
  | .imd f, m :: d :: bs => some (f m d, bs)
  | .imx f, m :: d :: bs => some (f m d, bs)
  | _, _ => none

/-- Reads one instruction from the front of the bytes and gives the bytes that are left; total, and every refusal is
named (R90, R124). -/
def decode : List Byte → Except DecodeError (Instr × List Byte)
  | [] => .error .noBytes
  | op :: bs =>
    match rowOf op with
    | none => .error (.unspecifiedSlot op)
    | some r =>
      match r.slot.operands bs with
      | none => .error (.truncated op)
      | some p => .ok p

/-- The operation and format that R97 lists at an opcode byte, shown by its instruction with operand bytes of zero. -/
def operationAt (op : Byte) : Option Instr :=
  match decode [op, 0x00#8, 0x00#8] with
  | .ok p => some p.1
  | .error _ => none

/-- The bytes of an instruction, lowest address first (R91, R97). -/
def encode : Instr → List Byte
  | .illegal00 => [0x00#8]
  | .nop => [0x01#8]
  | .illegal02 => [0x02#8]
  | .illegal03 => [0x03#8]
  | .lsrd => [0x04#8]
  | .asld => [0x05#8]
  | .tap => [0x06#8]
  | .tpa => [0x07#8]
  | .inx => [0x08#8]
  | .dex => [0x09#8]
  | .clv => [0x0A#8]
  | .sev => [0x0B#8]
  | .clc => [0x0C#8]
  | .sec => [0x0D#8]
  | .cli => [0x0E#8]
  | .sei => [0x0F#8]
  | .daa => [0x19#8]
  | .slp => [0x1A#8]
  | .bra rr => [0x20#8, rr]
  | .brn rr => [0x21#8, rr]
  | .bhi rr => [0x22#8, rr]
  | .bls rr => [0x23#8, rr]
  | .bcc rr => [0x24#8, rr]
  | .bcs rr => [0x25#8, rr]
  | .bne rr => [0x26#8, rr]
  | .beq rr => [0x27#8, rr]
  | .bvc rr => [0x28#8, rr]
  | .bvs rr => [0x29#8, rr]
  | .bpl rr => [0x2A#8, rr]
  | .bmi rr => [0x2B#8, rr]
  | .bge rr => [0x2C#8, rr]
  | .blt rr => [0x2D#8, rr]
  | .bgt rr => [0x2E#8, rr]
  | .ble rr => [0x2F#8, rr]
  | .rts => [0x39#8]
  | .rti => [0x3B#8]
  | .mul => [0x3D#8]
  | .wai => [0x3E#8]
  | .lsra => [0x44#8]
  | .rora => [0x46#8]
  | .asra => [0x47#8]
  | .asla => [0x48#8]
  | .rola => [0x49#8]
  | .deca => [0x4A#8]
  | .inca => [0x4C#8]
  | .lsrb => [0x54#8]
  | .rorb => [0x56#8]
  | .asrb => [0x57#8]
  | .aslb => [0x58#8]
  | .rolb => [0x59#8]
  | .decb => [0x5A#8]
  | .incb => [0x5C#8]
  | .aimIdx ii ff => [0x61#8, ii, ff]
  | .oimIdx ii ff => [0x62#8, ii, ff]
  | .lsrIdx ff => [0x64#8, ff]
  | .eimIdx ii ff => [0x65#8, ii, ff]
  | .rorIdx ff => [0x66#8, ff]
  | .asrIdx ff => [0x67#8, ff]
  | .aslIdx ff => [0x68#8, ff]
  | .rolIdx ff => [0x69#8, ff]
  | .timIdx ii ff => [0x6B#8, ii, ff]
  | .jmpIdx ff => [0x6E#8, ff]
  | .aimDir ii dd => [0x71#8, ii, dd]
  | .oimDir ii dd => [0x72#8, ii, dd]
  | .lsrExt hhll => [0x74#8, hiByte hhll, loByte hhll]
  | .eimDir ii dd => [0x75#8, ii, dd]
  | .rorExt hhll => [0x76#8, hiByte hhll, loByte hhll]
  | .asrExt hhll => [0x77#8, hiByte hhll, loByte hhll]
  | .aslExt hhll => [0x78#8, hiByte hhll, loByte hhll]
  | .rolExt hhll => [0x79#8, hiByte hhll, loByte hhll]
  | .timDir ii dd => [0x7B#8, ii, dd]
  | .jmpExt hhll => [0x7E#8, hiByte hhll, loByte hhll]
  | .subaImm ii => [0x80#8, ii]
  | .cmpaImm ii => [0x81#8, ii]
  | .sbcaImm ii => [0x82#8, ii]
  | .subdImm jjkk => [0x83#8, hiByte jjkk, loByte jjkk]
  | .ldaaImm ii => [0x86#8, ii]
  | .adcaImm ii => [0x89#8, ii]
  | .addaImm ii => [0x8B#8, ii]
  | .bsr rr => [0x8D#8, rr]
  | .ldsImm jjkk => [0x8E#8, hiByte jjkk, loByte jjkk]
  | .subaDir dd => [0x90#8, dd]
  | .cmpaDir dd => [0x91#8, dd]
  | .sbcaDir dd => [0x92#8, dd]
  | .subdDir dd => [0x93#8, dd]
  | .ldaaDir dd => [0x96#8, dd]
  | .staaDir dd => [0x97#8, dd]
  | .adcaDir dd => [0x99#8, dd]
  | .addaDir dd => [0x9B#8, dd]
  | .jsrDir dd => [0x9D#8, dd]
  | .ldsDir dd => [0x9E#8, dd]
  | .subaIdx ff => [0xA0#8, ff]
  | .cmpaIdx ff => [0xA1#8, ff]
  | .sbcaIdx ff => [0xA2#8, ff]
  | .subdIdx ff => [0xA3#8, ff]
  | .ldaaIdx ff => [0xA6#8, ff]
  | .staaIdx ff => [0xA7#8, ff]
  | .adcaIdx ff => [0xA9#8, ff]
  | .addaIdx ff => [0xAB#8, ff]
  | .jsrIdx ff => [0xAD#8, ff]
  | .ldsIdx ff => [0xAE#8, ff]
  | .subaExt hhll => [0xB0#8, hiByte hhll, loByte hhll]
  | .cmpaExt hhll => [0xB1#8, hiByte hhll, loByte hhll]
  | .sbcaExt hhll => [0xB2#8, hiByte hhll, loByte hhll]
  | .subdExt hhll => [0xB3#8, hiByte hhll, loByte hhll]
  | .ldaaExt hhll => [0xB6#8, hiByte hhll, loByte hhll]
  | .staaExt hhll => [0xB7#8, hiByte hhll, loByte hhll]
  | .adcaExt hhll => [0xB9#8, hiByte hhll, loByte hhll]
  | .addaExt hhll => [0xBB#8, hiByte hhll, loByte hhll]
  | .jsrExt hhll => [0xBD#8, hiByte hhll, loByte hhll]
  | .ldsExt hhll => [0xBE#8, hiByte hhll, loByte hhll]
  | .subbImm ii => [0xC0#8, ii]
  | .cmpbImm ii => [0xC1#8, ii]
  | .sbcbImm ii => [0xC2#8, ii]
  | .adddImm jjkk => [0xC3#8, hiByte jjkk, loByte jjkk]
  | .ldabImm ii => [0xC6#8, ii]
  | .adcbImm ii => [0xC9#8, ii]
  | .addbImm ii => [0xCB#8, ii]
  | .lddImm jjkk => [0xCC#8, hiByte jjkk, loByte jjkk]
  | .ldxImm jjkk => [0xCE#8, hiByte jjkk, loByte jjkk]
  | .subbDir dd => [0xD0#8, dd]
  | .cmpbDir dd => [0xD1#8, dd]
  | .sbcbDir dd => [0xD2#8, dd]
  | .adddDir dd => [0xD3#8, dd]
  | .ldabDir dd => [0xD6#8, dd]
  | .stabDir dd => [0xD7#8, dd]
  | .adcbDir dd => [0xD9#8, dd]
  | .addbDir dd => [0xDB#8, dd]
  | .lddDir dd => [0xDC#8, dd]
  | .stdDir dd => [0xDD#8, dd]
  | .ldxDir dd => [0xDE#8, dd]
  | .stxDir dd => [0xDF#8, dd]
  | .subbIdx ff => [0xE0#8, ff]
  | .cmpbIdx ff => [0xE1#8, ff]
  | .sbcbIdx ff => [0xE2#8, ff]
  | .adddIdx ff => [0xE3#8, ff]
  | .ldabIdx ff => [0xE6#8, ff]
  | .stabIdx ff => [0xE7#8, ff]
  | .adcbIdx ff => [0xE9#8, ff]
  | .addbIdx ff => [0xEB#8, ff]
  | .lddIdx ff => [0xEC#8, ff]
  | .stdIdx ff => [0xED#8, ff]
  | .ldxIdx ff => [0xEE#8, ff]
  | .stxIdx ff => [0xEF#8, ff]
  | .subbExt hhll => [0xF0#8, hiByte hhll, loByte hhll]
  | .cmpbExt hhll => [0xF1#8, hiByte hhll, loByte hhll]
  | .sbcbExt hhll => [0xF2#8, hiByte hhll, loByte hhll]
  | .adddExt hhll => [0xF3#8, hiByte hhll, loByte hhll]
  | .ldabExt hhll => [0xF6#8, hiByte hhll, loByte hhll]
  | .stabExt hhll => [0xF7#8, hiByte hhll, loByte hhll]
  | .adcbExt hhll => [0xF9#8, hiByte hhll, loByte hhll]
  | .addbExt hhll => [0xFB#8, hiByte hhll, loByte hhll]
  | .lddExt hhll => [0xFC#8, hiByte hhll, loByte hhll]
  | .stdExt hhll => [0xFD#8, hiByte hhll, loByte hhll]
  | .ldxExt hhll => [0xFE#8, hiByte hhll, loByte hhll]
  | .stxExt hhll => [0xFF#8, hiByte hhll, loByte hhll]

/-- An instruction's length in bytes (R91). -/
def Instr.length (i : Instr) : Nat := (encode i).length

/-- The opcode byte of an instruction (R97). -/
def Instr.opcode (i : Instr) : Byte := (encode i).headD 0#8

/-- The declared cycles of an instruction: those of its own row of R97, whatever its operands (R139, R420). -/
def Instr.cycles (i : Instr) : Nat :=
  match rowOf i.opcode with
  | some r => r.cycles
  | none => 0

/-- The bytes of a number, least significant first: byte `k` is bits `8k+7 .. 8k`. -/
def bytesOfNat (n : Nat) : Nat → List Byte
  | 0 => []
  | k + 1 => BitVec.ofNat 8 n :: bytesOfNat (n / 256) k

/-- The three bytes that an instruction of at most three bytes can have, from the host's number `w` of `nbits` bits; the
bits above `nbits` are 0. -/
def tableBytes (nbits w : Nat) : List Byte := bytesOfNat (w % 2 ^ nbits) 3

/-- The instruction the decoder reads from an instruction whose bits are `w`, the first byte in bits 7..0. -/
def decodeTableWord (nbits w : Nat) : Option Instr :=
  match decode (tableBytes nbits w) with
  | .ok (i, _) => some i
  | .error _ => none

end Sys2Proof
end

