-- ==== Sys2Proof/WellFormed.lean ====
section
/-!
DEFINITION. What is well formed: a configuration that can be constructed (spec/00_scope.md R5, R7; spec/30_encoding.md
R98; spec/46_system.md R273), and an instruction that the configuration's capability record provides (R6). An operand
needs no check: every operand byte is legal (spec/30_encoding.md R101).
-/

namespace Sys2Proof

/-- The capability an instruction's slot depends on (R5 capability record, R6). -/
inductive Capability where
  /-- On every variant. -/
  | base
  /-- "Present only when `HAS_D`" (R163, R164, R166, R196, R197, R215, R216). -/
  | accD
  /-- "Present only when `HAS_EXT_OPS`" (R200, R271); BRN (R6) and the direct JSR (R248), DEDUCED (log 12). -/
  | ext
deriving DecidableEq, Repr

/-- The capability each instruction depends on. -/
def Instr.needs : Instr → Capability
  | .lsrd | .asld | .mul | .subdImm .. | .subdDir .. | .subdIdx .. | .subdExt .. | .adddImm .. | .lddImm ..
  | .adddDir .. | .lddDir .. | .stdDir .. | .adddIdx .. | .lddIdx .. | .stdIdx .. | .adddExt .. | .lddExt ..
  | .stdExt ..
    => .accD
  | .slp | .brn .. | .aimIdx .. | .oimIdx .. | .eimIdx .. | .timIdx .. | .aimDir .. | .oimDir .. | .eimDir ..
  | .timDir .. | .jsrDir ..
    => .ext
  | .illegal00 | .nop | .illegal02 | .illegal03 | .tap | .tpa | .inx | .dex | .clv | .sev | .clc | .sec
  | .cli | .sei | .daa | .bra .. | .bhi .. | .bls .. | .bcc .. | .bcs .. | .bne .. | .beq .. | .bvc ..
  | .bvs .. | .bpl .. | .bmi .. | .bge .. | .blt .. | .bgt .. | .ble .. | .rts | .rti | .wai | .lsra | .rora
  | .asra | .asla | .rola | .deca | .inca | .lsrb | .rorb | .asrb | .aslb | .rolb | .decb | .incb
  | .lsrIdx .. | .rorIdx .. | .asrIdx .. | .aslIdx .. | .rolIdx .. | .jmpIdx .. | .lsrExt .. | .rorExt ..
  | .asrExt .. | .aslExt .. | .rolExt .. | .jmpExt .. | .subaImm .. | .cmpaImm .. | .sbcaImm .. | .ldaaImm ..
  | .adcaImm .. | .addaImm .. | .bsr .. | .ldsImm .. | .subaDir .. | .cmpaDir .. | .sbcaDir .. | .ldaaDir ..
  | .staaDir .. | .adcaDir .. | .addaDir .. | .ldsDir .. | .subaIdx .. | .cmpaIdx .. | .sbcaIdx ..
  | .ldaaIdx .. | .staaIdx .. | .adcaIdx .. | .addaIdx .. | .jsrIdx .. | .ldsIdx .. | .subaExt ..
  | .cmpaExt .. | .sbcaExt .. | .ldaaExt .. | .staaExt .. | .adcaExt .. | .addaExt .. | .jsrExt ..
  | .ldsExt .. | .subbImm .. | .cmpbImm .. | .sbcbImm .. | .ldabImm .. | .adcbImm .. | .addbImm ..
  | .ldxImm .. | .subbDir .. | .cmpbDir .. | .sbcbDir .. | .ldabDir .. | .stabDir .. | .adcbDir ..
  | .addbDir .. | .ldxDir .. | .stxDir .. | .subbIdx .. | .cmpbIdx .. | .sbcbIdx .. | .ldabIdx ..
  | .stabIdx .. | .adcbIdx .. | .addbIdx .. | .ldxIdx .. | .stxIdx .. | .subbExt .. | .cmpbExt ..
  | .sbcbExt .. | .ldabExt .. | .stabExt .. | .adcbExt .. | .addbExt .. | .ldxExt .. | .stxExt ..
    => .base

/-- Whether the capability record has a capability (R5). -/
def Config.provides (c : Config) : Capability → Bool
  | .base => true
  | .accD => c.hasD
  | .ext => c.hasExtOps

/-- An instruction is well formed in a configuration that has what it needs (R5, R6). -/
def Instr.wf (c : Config) (i : Instr) : Bool := c.provides i.needs

/-- Whether a configuration has the operation that R97 lists at an opcode byte: an `op` slot, and what it needs. -/
def Config.hasOperation (c : Config) (op : Byte) : Bool :=
  match rowOf op, operationAt op with
  | some r, some i => !r.slot.isIllegal && i.wf c
  | _, _ => false

/-- The constraints on a table's entry (R98): an `op` entry costs 1 to 12 and names an operation; an `illegal` entry has
a cost that is "never 0". -/
def Entry.wf (c : Config) : Entry → Bool
  | .op slot cycles => decide (1 ≤ cycles) && decide (cycles ≤ 12) && c.hasOperation slot
  | .illegal cycles => decide (0 < cycles)
  | .unspecified => true

/-- R5: `C_ILLEGAL`, `C_INT` and `C_TRAP` are "cycles, > 0". -/
def Config.costsPositive (c : Config) : Bool := decide (0 < c.cIllegal) && decide (0 < c.cInt) && decide (0 < c.cTrap)

/-- R340: a prescaler that reaches its divisor makes a tick, so a divisor is at least one cycle (log 15). -/
def Config.divisorsPositive (c : Config) : Bool :=
  decide (0 < c.baud0) && decide (0 < c.baud1) && decide (0 < c.baud2) && decide (0 < c.baud3)

/-- Every entry that the table changes meets R98. -/
def Config.tableWf (c : Config) : Bool := c.table.all fun e => e.2.wf c

/-- A configuration that constructs: "a table with an `illegal(0)` entry is malformed and rejected at construction"
(R273), and a configuration without what it needs is not a machine (R7). -/
def Config.wf (c : Config) : Bool := c.costsPositive && c.divisorsPositive && c.tableWf

end Sys2Proof
end

