-- ==== Sys2Proof/Machine/Serial.lean ====
section
/-!
DEFINITION. The UART (spec/48_serial.md): its state (spec/10_state.md R40 to R43), the prescaler, the transmitter, the
receiver, its register writes and reads. Every function here is one of `Sci` (and of the configuration) alone; the
window and the step call it.
-/

namespace Sys2Proof.Machine

/-- Where a transmitter or receiver stands in a frame (R43): `TXST`, `RXST`. -/
inductive FrameState where
  | idle
  | data (i : Fin 8)
  | stop
deriving DecidableEq, Repr

/-- The UART's state (R40 to R43) and its two lines (R28). -/
structure Sci where
  /-- `RMCR` (R40): SS in bits 1:0, CC_SEL in bits 3:2. -/
  rmcr : BitVec 4
  /-- `TRCSR` (R41): RDRF 7, ORFE 6, TDRE 5, RIE 4, TIE 3, RE 2, TE 1, WU 0. -/
  trcsr : Byte
  /-- `RDR` (R42). -/
  rdr : Byte
  /-- `TDR` (R42). -/
  tdr : Byte
  /-- `TSR`, the transmit shift register (R43). -/
  tsr : Byte
  /-- `RSR`, the receive shift register (R43). -/
  rsr : Byte
  /-- `TXST` (R43). -/
  txst : FrameState
  /-- `RXST` (R43). -/
  rxst : FrameState
  /-- `WUCNT` (R43): consecutive high samples in wake-up mode. -/
  wucnt : Nat
  /-- `RXPREV` (R43): the previous tick's sample. -/
  rxprev : Bool
  /-- `SDIV` (R43): the prescaler. -/
  sdiv : Nat
  /-- `RXD_LINE` (R28), true for high. -/
  rxdLine : Bool
  /-- `TXD_LINE` (R28), true for high. -/
  txdLine : Bool
deriving DecidableEq, Repr

/-- `TRCSR.RDRF`. -/
def Sci.rdrf (u : Sci) : Bool := u.trcsr.getLsbD 7
/-- `TRCSR.ORFE`. -/
def Sci.orfe (u : Sci) : Bool := u.trcsr.getLsbD 6
/-- `TRCSR.TDRE`. -/
def Sci.tdre (u : Sci) : Bool := u.trcsr.getLsbD 5
/-- `TRCSR.RIE`. -/
def Sci.rie (u : Sci) : Bool := u.trcsr.getLsbD 4
/-- `TRCSR.TIE`. -/
def Sci.tie (u : Sci) : Bool := u.trcsr.getLsbD 3
/-- `TRCSR.RE`. -/
def Sci.re (u : Sci) : Bool := u.trcsr.getLsbD 2
/-- `TRCSR.TE`. -/
def Sci.te (u : Sci) : Bool := u.trcsr.getLsbD 1
/-- `TRCSR.WU`. -/
def Sci.wu (u : Sci) : Bool := u.trcsr.getLsbD 0

/-- Bits 7:5 of `TRCSR`: its flags (R41). -/
def trcsrFlags : Byte := 0xE0#8
/-- Bits 4:0 of `TRCSR`: its writable bits (R41, R333). -/
def trcsrWritable : Byte := 0x1F#8

/-- The serial interrupt request, a level (R336). -/
def Sci.request (u : Sci) : Bool := (u.rie && (u.rdrf || u.orfe)) || (u.tie && u.tdre)

/-- `RMCR.CC_SEL == 0b11`: ticks come from `SCLK` (R40, R341). -/
def Sci.externalClock (u : Sci) : Bool := u.rmcr.extractLsb' 2 2 == 0b11#2

/-- `BAUD_DIV[RMCR.SS]` (R40, R340). -/
def Sci.divisor (c : Config) (u : Sci) : Nat :=
  match (u.rmcr.extractLsb' 0 2).toNat with
  | 0 => c.baud0
  | 1 => c.baud1
  | 2 => c.baud2
  | _ => c.baud3

/-- The state after bit `i` of a frame (R342, R345): the next bit, and the stop bit after bit 7. -/
def FrameState.afterBit (i : Fin 8) : FrameState :=
  if i = 7 then .stop else .data (i + 1)

/-- `TxTick()` (R342). -/
def Sci.txTick (u : Sci) : Sci :=
  if u.te then
    match u.txst with
    | .idle =>
      if u.tdre then { u with txdLine := true }
      else { u with tsr := u.tdr, trcsr := u.trcsr ||| 0x20#8, txdLine := false, txst := .data 0 }
    | .data i => { u with txdLine := u.tsr.getLsbD 0, tsr := u.tsr >>> 1, txst := .afterBit i }
    | .stop => { u with txdLine := true, txst := .idle }
  else u

/-- The wake-up hold (R345, R347): counts consecutive high samples; the tenth clears `WU`. -/
def Sci.rxWakeUp (u : Sci) (smp : Bool) : Sci :=
  if smp then
    if u.wucnt + 1 = 10 then { u with trcsr := u.trcsr &&& 0xFE#8, wucnt := 0, rxst := .idle }
    else { u with wucnt := u.wucnt + 1 }
  else { u with wucnt := 0 }

/-- The stop-bit check (R345): overrun first, then a good frame, then a framing error. -/
def Sci.rxStop (u : Sci) (smp : Bool) : Sci :=
  if u.rdrf then { u with trcsr := u.trcsr ||| 0x40#8, rxst := .idle }
  else if smp then { u with rdr := u.rsr, trcsr := u.trcsr ||| 0x80#8, rxst := .idle }
  else { u with trcsr := u.trcsr ||| 0x40#8, rdr := u.rsr, rxst := .idle }

/-- One sample of normal reception (R345). -/
def Sci.rxFrame (u : Sci) (smp : Bool) : Sci :=
  match u.rxst with
  | .idle => if u.rxprev && !smp then { u with rxst := .data 0 } else u
  | .data i => { u with rsr := (u.rsr >>> 1) ||| (if smp then 0x80#8 else 0x00#8), rxst := .afterBit i }
  | .stop => u.rxStop smp

/-- `RxTick()` (R345): one sample, taken always; `RXPREV` is updated every tick. -/
def Sci.rxTick (u : Sci) : Sci :=
  let smp := u.rxdLine
  let u := if u.re then (if u.wu then u.rxWakeUp smp else u.rxFrame smp) else u
  { u with rxprev := smp }

/-- The environment's wire from `TXD` to `RXD`, when there is one (R331, R360; log 14). -/
def Sci.wire (c : Config) (u : Sci) : Sci := if c.loopback then { u with rxdLine := u.txdLine } else u

/-- `SerialTick()`: the transmitter's half of a tick, then the receiver's (R331, R340). -/
def Sci.tick (c : Config) (u : Sci) : Sci := ((u.txTick).wire c).rxTick

/-- The loop of `SerialAdvance` (R340): while the prescaler holds a whole divisor, takes it off and ticks. A pass takes
off at least one cycle, so as many passes as the prescaler's value are enough (`fuel`). -/
def Sci.drain (c : Config) (fuel : Nat) (u : Sci) : Sci :=
  match fuel with
  | 0 => u
  | fuel + 1 =>
    if u.divisor c ≤ u.sdiv then Sci.drain c fuel ({ u with sdiv := u.sdiv - u.divisor c }.tick c) else u

/-- `SerialAdvance(n)` (R340). -/
def Sci.advance (c : Config) (n : Nat) (u : Sci) : Sci :=
  if u.externalClock then u else Sci.drain c (u.sdiv + n) { u with sdiv := u.sdiv + n }

/-- `SerialClock()` (R341): one tick if the external clock is selected. -/
def Sci.clock (c : Config) (u : Sci) : Sci := if u.externalClock then u.tick c else u

/-- Write of `RMCR` (R332): clears the prescaler. -/
def Sci.writeRmcr (u : Sci) (v : Byte) : Sci := { u with rmcr := v.extractLsb' 0 4, sdiv := 0 }

/-- Write of `TRCSR` (R333): the flags stay; switching off abandons a frame; entering wake-up clears the count. -/
def Sci.writeTrcsr (u : Sci) (v : Byte) : Sci :=
  let old := u
  let u := { u with trcsr := (u.trcsr &&& trcsrFlags) ||| (v &&& trcsrWritable) }
  let u := if u.te then u else { u with txst := .idle, txdLine := true }
  let u := if u.re && old.re then u else { u with rxst := .idle }
  if u.wu && !old.wu then { u with wucnt := 0 } else u

/-- The side effect of a read of `RDR` (R334): clears `RDRF` and `ORFE`. -/
def Sci.takeRdr (u : Sci) : Sci := { u with trcsr := u.trcsr &&& 0x3F#8 }

/-- Write of `TDR` (R335): stores the byte and clears `TDRE`. -/
def Sci.writeTdr (u : Sci) (v : Byte) : Sci := { u with tdr := v, trcsr := u.trcsr &&& 0xDF#8 }

/-- The UART after a reset (R50, R400); the four arguments are the values of the data registers, which the spec leaves
unspecified. The level of `RXD` is not changed. -/
def Sci.afterReset (u : Sci) (rdr tdr tsr rsr : Byte) : Sci :=
  { u with
    rmcr := 0x0#4, trcsr := 0x20#8, rdr := rdr, tdr := tdr, tsr := tsr, rsr := rsr, txst := .idle, rxst := .idle,
    wucnt := 0, rxprev := true, sdiv := 0, txdLine := true }

end Sys2Proof.Machine
end

