-- ==== Sys2Proof/Machine/Timer.lean ====
section
/-!
DEFINITION. The timer/counter (spec/47_timer.md): its state (spec/10_state.md R32 to R38), its advance, the arm-then-clear
flag protocol, its register reads and writes, and the capture event. Every function here is one of `Timer` alone; the
window and the step call it.
-/

namespace Sys2Proof.Machine

/-- The timer's state (R32 to R38) and the level of its input line `TIN` (R28). -/
structure Timer where
  /-- `CNT`, the free-running counter (R32). -/
  cnt : Word
  /-- `OCR`, the output-compare register (R33). -/
  ocr : Word
  /-- `ICR`, the input-capture register (R34). -/
  icr : Word
  /-- `TCSR`, the control and status register (R35): ICF 7, OCF 6, TOF 5, EICI 4, EOCI 3, ETOI 2, IEDG 1, OLVL 0. -/
  tcsr : Byte
  /-- `TPEND`, the armed flags, at the flags' own positions (R36). -/
  tpend : Byte
  /-- `CHLATCH`, the last byte written to the counter's high address (R37). -/
  chlatch : Byte
  /-- `TIN_LINE` (R28). -/
  tinLine : Bool
deriving DecidableEq, Repr

/-- The three flags of `TCSR` (R35). -/
inductive TFlag where
  | icf
  | ocf
  | tof
deriving DecidableEq, Repr

/-- The bit of a flag in `TCSR` and in `TPEND` (R35, R36). -/
def TFlag.mask : TFlag → Byte
  | .icf => 0x80#8
  | .ocf => 0x40#8
  | .tof => 0x20#8

/-- The number of a flag's bit in `TCSR` and in `TPEND` (R35, R36). -/
def TFlag.bit : TFlag → Nat
  | .icf => 7
  | .ocf => 6
  | .tof => 5

/-- Bits 7:5 of `TCSR`: its flags (R35). -/
def tcsrFlags : Byte := 0xE0#8

/-- Bits 4:0 of `TCSR`: its writable bits (R35, R297). -/
def tcsrWritable : Byte := 0x1F#8

/-- Whether a flag is set. -/
def Timer.flag (t : Timer) (f : TFlag) : Bool := t.tcsr.getLsbD f.bit

/-- Whether a flag is armed (R36). -/
def Timer.armed (t : Timer) (f : TFlag) : Bool := t.tpend.getLsbD f.bit

/-- Whether a flag's interrupt is enabled: "each enable bit lies three places below its flag" (R35). -/
def Timer.enabled (t : Timer) (f : TFlag) : Bool := t.tcsr.getLsbD (f.bit - 3)

/-- A flag's interrupt request, "the AND of a flag and its enable" (R292). -/
def Timer.request (t : Timer) (f : TFlag) : Bool := t.flag f && t.enabled f

/-- `RaiseFlag(f)` (R294): sets the flag and disarms it, "even if it was already set and armed". -/
def Timer.raiseFlag (t : Timer) (f : TFlag) : Timer :=
  { t with tcsr := t.tcsr ||| f.mask, tpend := t.tpend &&& ~~~f.mask }

/-- `ClearIfArmed(f)` (R296). -/
def Timer.clearIfArmed (t : Timer) (f : TFlag) : Timer :=
  if t.armed f then { t with tcsr := t.tcsr &&& ~~~f.mask, tpend := t.tpend &&& ~~~f.mask } else t

/-- One counted cycle (R300). -/
def Timer.tick (t : Timer) : Timer :=
  let t := { t with cnt := t.cnt + 1#16 }
  let t := if t.cnt = t.ocr then t.raiseFlag .ocf else t
  if t.cnt = 0xFFFF#16 then t.raiseFlag .tof else t

/-- `TimerAdvance(n)`, cycle by cycle (R300). -/
def Timer.advance (t : Timer) : Nat → Timer
  | 0 => t
  | n + 1 => t.tick.advance n

/-- The side effect of a read of `TCSR` (R295): arms exactly the flags that are set. -/
def Timer.armFlags (t : Timer) : Timer := { t with tpend := t.tcsr &&& tcsrFlags }

/-- Write of `TCSR` (R297): bits 4:0 are stored, the flags and `TPEND` stay. -/
def Timer.writeTcsr (t : Timer) (v : Byte) : Timer :=
  { t with tcsr := (t.tcsr &&& tcsrFlags) ||| (v &&& tcsrWritable) }

/-- Write of `CH` (R298): latches the byte and presets the counter. -/
def Timer.writeCh (t : Timer) (v : Byte) : Timer := { t with chlatch := v, cnt := 0xFFF8#16 }

/-- Write of `CL` (R298): loads the latched high byte and the byte. -/
def Timer.writeCl (t : Timer) (v : Byte) : Timer := { t with cnt := joinBytes t.chlatch v }

/-- Write of `OCRH` (R299), a qualifying access for `OCF`. -/
def Timer.writeOcrh (t : Timer) (v : Byte) : Timer :=
  { t with ocr := joinBytes v (loByte t.ocr) }.clearIfArmed .ocf

/-- Write of `OCRL` (R299), a qualifying access for `OCF`. -/
def Timer.writeOcrl (t : Timer) (v : Byte) : Timer :=
  { t with ocr := joinBytes (hiByte t.ocr) v }.clearIfArmed .ocf

/-- Whether a change of `TIN` is the edge that `IEDG` selects (R305): rising for 1, falling for 0. -/
def Timer.captureEdge (t : Timer) (new : Bool) : Bool :=
  if t.tcsr.getLsbD 1 then !t.tinLine && new else t.tinLine && !new

/-- `SetLine(TIN, new)` (R305): stores the level and, on the selected edge, latches the counter and raises `ICF`. -/
def Timer.setTin (t : Timer) (new : Bool) : Timer :=
  let active := t.captureEdge new
  let t := { t with tinLine := new }
  if active then { t with icr := t.cnt }.raiseFlag .icf else t

/-- The timer after a reset (R50, R400); `icr` is the value of `ICR`, which the spec leaves unspecified. The level of
`TIN` is not changed. -/
def Timer.afterReset (t : Timer) (icr : Word) : Timer :=
  { t with cnt := 0x0000#16, ocr := 0xFFFF#16, icr := icr, tcsr := 0x00#8, tpend := 0x00#8, chlatch := 0x00#8 }

end Sys2Proof.Machine
end

