-- ==== Sys2Proof/Machine/State.lean ====
section
/-!
DEFINITION. The state of the block (spec/10_state.md) as plain data, why a step can stop, and the state after reset
(R50, R51).
-/

namespace Sys2Proof.Machine

/-- The condition-code register `CC` (R26), held as its six flags. Its bits 7:6 "read as 1, writes ignored", so they need
no storage: `CC.toByte` and `CC.ofByte` give and take the byte image that TPA, TAP, RTI and the frame use (log 18). -/
structure CC where
  /-- Bit 5: half carry out of bit 3. -/
  h : Bool
  /-- Bit 4: interrupt mask. -/
  i : Bool
  /-- Bit 3: result is negative. -/
  n : Bool
  /-- Bit 2: result is zero. -/
  z : Bool
  /-- Bit 1: two's-complement overflow. -/
  v : Bool
  /-- Bit 0: carry or borrow. -/
  c : Bool
deriving DecidableEq, Repr

/-- `MODE`, the "WAIT/SLEEP mode flag" (R29). -/
inductive Mode where
  | run
  | waitWai
  | waitSlp
deriving DecidableEq, Repr

/-- Everything the spec gives the block (10_state.md), and three fields of the model's own: `cfg`, `devLog` and `draws`. -/
structure State where
  /-- The construction parameters (R5), the model's own field: no step changes it (R6, R31; log 9). -/
  cfg : Config
  /-- `A`, accumulator (R21). -/
  a : Byte
  /-- `B`, accumulator (R21). -/
  b : Byte
  /-- `X`, index register (R23). -/
  x : Word
  /-- `SP`, stack pointer (R24). -/
  sp : Word
  /-- `PC`, program counter (R25). -/
  pc : Word
  /-- `CC`, condition codes (R26). -/
  cc : CC
  /-- `MODE` (R29). -/
  mode : Mode
  /-- `NMI_PEND`, the NMI edge latch (R28). -/
  nmiPend : Bool
  /-- `RST_PEND`, the reset request latch (R28). -/
  rstPend : Bool
  /-- `IRQ_LINE` (R28). -/
  irqLine : Bool
  /-- `NMI_LINE` (R28). -/
  nmiLine : Bool
  /-- The level of `RESET`, which its edge is found against (R28, R141; log 10). -/
  resetLine : Bool
  /-- `ICOUNT`, the cycle budget left, signed (R30). -/
  icount : Int
  /-- `TOTAL`, cycles consumed since construction (R30). -/
  total : Nat
  /-- The timer (R32 to R38) and `TIN_LINE`. -/
  tim : Timer
  /-- The UART (R40 to R43), `RXD_LINE` and `TXD_LINE`. -/
  sci : Sci
  /-- External memory (R61), the environment's: the cells of its RAM and ROM. -/
  mem : Memory
  /-- The accesses made to the environment's devices, latest first, the model's own field: what such a device may answer
  by (R61; log 2). -/
  devLog : List DeviceAccess
  /-- How many free values have been drawn, the model's own field (log 8). -/
  draws : Nat
deriving DecidableEq, Repr

/-- Why a step faults. The block itself raises nothing to the host (R144) and no access faults (R61), so the only fault
is the configuration's. -/
inductive Fault where
  /-- Raised by `step` alone, when the configuration is not well formed: "fatal at construction time" (R7), "malformed
  and rejected at construction" (R273). Safe: there is no such machine (log 15). -/
  | malformedConfiguration
deriving DecidableEq, Repr

/-- Why a step is refused: "the spec gives the situation no meaning" (R12). -/
inductive Refusal where
  /-- Raised by an arm of `exec` for an instruction without a meaning; no arm does. Safe. -/
  | notModelled (mnemonic : String)
  /-- Raised by the fetch of an opcode byte whose slot is `unspecified` (R100, R275). `after` is "the state at the
  refusal": "the state after the opcode fetch (`PC` advanced by one)". Safe: nothing is claimed of it. -/
  | unspecifiedSlot (op : Byte) (after : State)
  /-- Raised by the fetch of an instruction byte from a claimed window offset (R79, R92). Safe, as above (log 13). -/
  | fetchFromWindow (addr : Word)
deriving DecidableEq, Repr

/-- The word at an address of external memory, high byte first (R64). -/
def Memory.readWord (m : Memory) (a : Word) : Word := joinBytes (Memory.read m a) (Memory.read m (a + 1#16))

/-- The machine right after reset, the launch state of R51 and R403: each item at the value of R50's table, the reference
configuration, and nothing listed in memory. Items that R50 calls unspecified are 0 (DESIGN CHOICE, unsafe, log 4); lines
and counters that a reset does not set are idle and 0 (DESIGN CHOICE, unsafe, log 6); `PC` is the word at `VEC_RESET`. -/
def State.reset : State where
  cfg := Config.reference
  a := 0x00#8
  b := 0x00#8
  x := 0x0000#16
  sp := 0x0000#16
  pc := Memory.readWord [] Config.reference.vecReset
  cc := { h := false, i := true, n := false, z := false, v := false, c := false }
  mode := .run
  nmiPend := false
  rstPend := false
  irqLine := false
  nmiLine := false
  resetLine := false
  icount := 0
  total := 0
  tim := { cnt := 0x0000#16, ocr := 0xFFFF#16, icr := 0x0000#16, tcsr := 0x00#8, tpend := 0x00#8, chlatch := 0x00#8, tinLine := false }
  sci := { rmcr := 0x0#4, trcsr := 0x20#8, rdr := 0x00#8, tdr := 0x00#8, tsr := 0x00#8, rsr := 0x00#8, txst := .idle, rxst := .idle, wucnt := 0, rxprev := true, sdiv := 0, rxdLine := true, txdLine := true }
  mem := []
  devLog := []
  draws := 0

end Sys2Proof.Machine
end

