-- ==== Sys2Proof/Machine/Window.lean ====
section
/-!
DEFINITION. The register window (spec/20_memory.md R65 to R70): which addresses are claimed, and what a read or a write of
each claimed register returns and does. A read is in two parts, its value and its side effect, because the side-effect-free
read of R72 takes the first part alone.
-/

namespace Sys2Proof.Machine

/-- The claimed registers of the window (R66). -/
inductive WindowReg where
  | tcsr
  | ch
  | cl
  | ocrh
  | ocrl
  | icrh
  | icrl
  | rmcr
  | trcsr
  | rdr
  | tdr
deriving DecidableEq, Repr

/-- The register at a window offset (R66), if any. -/
def registerAt (off : Word) : Option WindowReg :=
  match off.toNat with
  | 0x08 => some .tcsr
  | 0x09 => some .ch
  | 0x0A => some .cl
  | 0x0B => some .ocrh
  | 0x0C => some .ocrl
  | 0x0D => some .icrh
  | 0x0E => some .icrl
  | 0x10 => some .rmcr
  | 0x11 => some .trcsr
  | 0x12 => some .rdr
  | 0x13 => some .tdr
  | _ => none

/-- Whether a register belongs to the timer; the others belong to the UART. -/
def WindowReg.ofTimer : WindowReg → Bool
  | .tcsr | .ch | .cl | .ocrh | .ocrl | .icrh | .icrl => true
  | .rmcr | .trcsr | .rdr | .tdr => false

/-- Whether the configuration has the unit a register belongs to (R317, R362). -/
def WindowReg.present (c : Config) (r : WindowReg) : Bool := if r.ofTimer then c.hasTimer else c.hasSci

/-- The claimed register at an address, `off = (addr - IOBASE) mod 2^16` (R62, R66); the registers of a unit that is
absent are not claimed (R317, R362). -/
def windowReg (c : Config) (addr : Word) : Option WindowReg :=
  (registerAt (addr - c.ioBase)).filter fun r => r.present c

/-- `WindowRead(off, side_effects = false)`: what a read returns (R66). -/
def State.windowValue (s : State) : WindowReg → Byte
  | .tcsr => s.tim.tcsr
  | .ch => hiByte s.tim.cnt
  | .cl => if s.cfg.clFallthrough then hiByte s.tim.ocr else loByte s.tim.cnt
  | .ocrh => hiByte s.tim.ocr
  | .ocrl => loByte s.tim.ocr
  | .icrh => hiByte s.tim.icr
  | .icrl => loByte s.tim.icr
  | .rmcr => s.sci.rmcr.setWidth 8
  | .trcsr => s.sci.trcsr
  | .rdr => s.sci.rdr
  | .tdr => Config.idleBus

/-- The column "read side effect" of R66. -/
def State.windowReadEffect (s : State) : WindowReg → State
  | .tcsr => { s with tim := s.tim.armFlags }
  | .ch => { s with tim := s.tim.clearIfArmed .tof }
  | .cl => if s.cfg.clFallthrough then { s with tim := s.tim.clearIfArmed .ocf } else s
  | .ocrh => { s with tim := s.tim.clearIfArmed .ocf }
  | .icrh => { s with tim := s.tim.clearIfArmed .icf }
  | .rdr => { s with sci := s.sci.takeRdr }
  | .ocrl | .icrl | .rmcr | .trcsr | .tdr => s

/-- `WindowWrite(off, v)` (R66). Writes of `ICRH`, `ICRL` and `RDR` are ignored (R306, R334). -/
def State.windowWrite (s : State) (r : WindowReg) (v : Byte) : State :=
  match r with
  | .tcsr => { s with tim := s.tim.writeTcsr v }
  | .ch => { s with tim := s.tim.writeCh v }
  | .cl => { s with tim := s.tim.writeCl v }
  | .ocrh => { s with tim := s.tim.writeOcrh v }
  | .ocrl => { s with tim := s.tim.writeOcrl v }
  | .rmcr => { s with sci := s.sci.writeRmcr v }
  | .trcsr => { s with sci := s.sci.writeTrcsr v }
  | .tdr => { s with sci := s.sci.writeTdr v }
  | .icrh | .icrl | .rdr => s

end Sys2Proof.Machine
end

