-- ==== Sys2Proof/Machine/Ops.lean ====
section
/-!
DEFINITION. The shared operations: the byte images of `CC` and `D` (spec/10_state.md R22, R26), the memory primitives
(spec/20_memory.md R62, R64, R72), the stack primitives (R27), interrupt and trap entry and the return from an interrupt
(spec/60_exceptions.md R376, R383; spec/46_system.md R272), the poll (R371, R372) and the reset sequence
(spec/70_reset_and_hazards.md R400).
-/

namespace Sys2Proof.Machine

/-- The byte that `CC` reads as, with bits 7:6 read as 1 (R26). -/
def CC.toByte (f : CC) : Byte :=
  0b11#2 ++ BitVec.ofBool f.h ++ BitVec.ofBool f.i ++ BitVec.ofBool f.n ++ BitVec.ofBool f.z ++ BitVec.ofBool f.v ++
    BitVec.ofBool f.c

/-- `CC <- v | 0xC0`: the flags from bits 5:0; bits 7:6 are ignored (R26). -/
def CC.ofByte (v : Byte) : CC where
  h := v.getLsbD 5
  i := v.getLsbD 4
  n := v.getLsbD 3
  z := v.getLsbD 2
  v := v.getLsbD 1
  c := v.getLsbD 0

/-- `D = {A, B}` (R22). -/
def State.d (s : State) : Word := joinBytes s.a s.b

/-- `D <- v` (R22). -/
def State.setD (s : State) (v : Word) : State := { s with a := hiByte v, b := loByte v }

/-- `X <- v`. -/
def State.setX (s : State) (v : Word) : State := { s with x := v }

/-- `SP <- v`. -/
def State.setSp (s : State) (v : Word) : State := { s with sp := v }

/-- `PC <- v`. -/
def State.setPc (s : State) (v : Word) : State := { s with pc := v }

/-- Sets the flags. -/
def State.setCc (s : State) (f : CC) : State := { s with cc := f }

/-- `MODE <- m`. -/
def State.setMode (s : State) (m : Mode) : State := { s with mode := m }

/-- `ExtRead(addr)` (R61): "a default value (commonly the idle-bus pattern)" where the environment has nothing. -/
def State.extRead (s : State) (addr : Word) : Byte :=
  match s.cfg.backing addr with
  | .ram cell | .rom cell => s.mem.read cell
  | .idle => Config.idleBus
  | .device => Config.deviceByte s.devLog s.total addr

/-- Records an access to a device, by which its later answers may go. -/
def State.logDevice (s : State) (addr : Word) (written : Option Byte) : State :=
  { s with devLog := { time := s.total, addr := addr, written := written } :: s.devLog }

/-- What `ExtRead(addr)` does to the environment: nothing, but for a device ("whether `ExtRead` is idempotent", R61). -/
def State.extReadEffect (s : State) (addr : Word) : State :=
  match s.cfg.backing addr with
  | .device => s.logDevice addr none
  | .ram _ | .rom _ | .idle => s

/-- `ExtWrite(addr, v)` (R61): "a write to an unpopulated address has no effect"; nor has one to ROM. -/
def State.extWrite (s : State) (addr : Word) (v : Byte) : State :=
  match s.cfg.backing addr with
  | .ram cell => { s with mem := s.mem.write cell v }
  | .rom _ | .idle => s
  | .device => s.logDevice addr (some v)

/-- The cell that a write of an address reaches: RAM outside the window (R61, R62). -/
def ramCell (c : Config) (addr : Word) : Option Word :=
  match windowReg c addr, c.backing addr with
  | none, .ram cell => some cell
  | _, _ => none

/-- The cell that a read of an address returns: RAM or ROM outside the window (R61, R62). -/
def readCell (c : Config) (addr : Word) : Option Word :=
  match windowReg c addr, c.backing addr with
  | none, .ram cell | none, .rom cell => some cell
  | _, _ => none

/-- Whether a device answers at an address: outside the window, and the environment's own function (R61, R62). -/
def deviceAddr (c : Config) (addr : Word) : Bool := (windowReg c addr).isNone && c.backing addr == .device

/-- Whether an address is ordinary memory: RAM outside the window, at the cell of the same number. -/
def plainAddr (c : Config) (addr : Word) : Bool := (windowReg c addr).isNone && c.backing addr == .ram addr

/-- `Peek(addr)` (R72): the byte a read returns, with no side effect; an unclaimed address is the environment's (R62). -/
def State.peek (s : State) (addr : Word) : Byte :=
  match windowReg s.cfg addr with
  | some r => s.windowValue r
  | none => s.extRead addr

/-- What a read of an address changes: the read side effect of a claimed register (R62, R70), and what the environment
does elsewhere (R61). -/
def State.readEffect (s : State) (addr : Word) : State :=
  match windowReg s.cfg addr with
  | some r => s.windowReadEffect r
  | none => s.extReadEffect addr

/-- `MemRead(addr, 1)` (R62): the byte, and the state after the read's side effect. -/
def State.read8 (s : State) (addr : Word) : Byte × State := (s.peek addr, s.readEffect addr)

/-- `MemWrite(addr, 1, v)` (R62): "a claimed offset never reaches the environment". -/
def State.write8 (s : State) (addr : Word) (v : Byte) : State :=
  match windowReg s.cfg addr with
  | some r => s.windowWrite r v
  | none => s.extWrite addr v

/-- `MemRead(addr, 2)` (R64): the byte at `addr` first, then the one at `addr + 1 mod 2^16`. -/
def State.read16 (s : State) (addr : Word) : Word × State :=
  let h := s.read8 addr
  let l := h.2.read8 (addr + 1#16)
  (joinBytes h.1 l.1, l.2)

/-- `MemWrite(addr, 2, v)` (R64): `v[15:8]` at `addr` first, then `v[7:0]` at `addr + 1 mod 2^16`. -/
def State.write16 (s : State) (addr v : Word) : State := (s.write8 addr (hiByte v)).write8 (addr + 1#16) (loByte v)

/-- `Push8(v)` (R27): store at `SP`, then decrement. -/
def State.push8 (s : State) (v : Byte) : State :=
  let t := s.write8 s.sp v
  t.setSp (t.sp - 1#16)

/-- `Pull8()` (R27): increment, then load. -/
def State.pull8 (s : State) : Byte × State :=
  let t := s.setSp (s.sp + 1#16)
  t.read8 t.sp

/-- `Push16(v)` (R27): the low byte first. -/
def State.push16 (s : State) (v : Word) : State := (s.push8 (loByte v)).push8 (hiByte v)

/-- `Pull16()` (R27): the high byte first. -/
def State.pull16 (s : State) : Word × State :=
  let h := s.pull8
  let l := h.2.pull8
  (joinBytes h.1 l.1, l.2)

/-- The seven pushes of an entry, "the full register set" (R376): `PC`, `X`, `A`, `B`, and `CC` as it was. -/
def State.pushFrame (s : State) : State :=
  ((((s.push16 s.pc).push16 s.x).push8 s.a).push8 s.b).push8 s.cc.toByte

/-- `PC <- MemRead(vec, 2)` (R376, R400). -/
def State.jumpVector (s : State) (vec : Word) : State :=
  let r := s.read16 vec
  r.2.setPc r.1

/-- `InterruptEntry(vec)` (R376): push the frame, mask, go to the vector. -/
def State.interruptEntry (s : State) (vec : Word) : State :=
  let t := s.pushFrame
  (t.setCc { t.cc with i := true }).jumpVector vec

/-- `TrapEntry()` (R383): "exactly like a hardware interrupt", through `VEC_TRAP`. -/
def State.trapEntry (s : State) : State := s.interruptEntry s.cfg.vecTrap

/-- The return from an interrupt (R272): pulls `CC`, `B`, `A`, `X`, `PC`, the reverse of the frame. -/
def State.returnFromInterrupt (s : State) : State :=
  let cc := s.pull8
  let b := cc.2.pull8
  let a := b.2.pull8
  let x := a.2.pull16
  let pc := x.2.pull16
  { pc.2 with cc := CC.ofByte cc.1, b := b.1, a := a.1, x := x.1, pc := pc.1 }

/-- An `illegal` slot (R273, R274): under the policy `nop` nothing beyond the opcode fetch, under `trap` the trap. -/
def State.illegalSlot (s : State) : State :=
  match s.cfg.illegalPolicy with
  | .nop => s
  | .trap => s.trapEntry

/-- `req(s)` (R371). -/
def State.requests (s : State) : Source → Bool
  | .reset => s.rstPend
  | .nmi => s.nmiPend
  | .irq => !s.cc.i && s.irqLine
  | .icf => !s.cc.i && s.cfg.hasTimer && s.tim.request .icf
  | .ocf => !s.cc.i && s.cfg.hasTimer && s.tim.request .ocf
  | .tof => !s.cc.i && s.cfg.hasTimer && s.tim.request .tof
  | .sci => !s.cc.i && s.cfg.hasSci && s.sci.request

/-- The sources in the fixed priority order of R372, highest first. -/
def pollOrder : List Source := [.reset, .nmi, .irq, .icf, .ocf, .tof, .sci]

/-- `Poll()` (R372). -/
def State.poll (s : State) : Option Source := pollOrder.find? fun src => s.requests src

/-- The step that takes an interrupt source (R121): the NMI latch is cleared first (R374), the wait ends, the handler is
entered. -/
def State.takeInterrupt (s : State) (src : Source) : State :=
  let t := match src with
    | .nmi => { s with nmiPend := false }
    | .reset | .irq | .icf | .ocf | .tof | .sci => s
  (t.setMode .run).interruptEntry (s.cfg.vec src)

/-- The assignments of `ResetSequence()` (R400) up to its last line. `A`, `B`, `X`, `SP`, the flags but `I`, `ICR`, `RDR`,
`TDR`, `TSR` and `RSR` are "unspecified after reset": each is a free value (log 5). -/
def State.resetRegisters (s : State) : State :=
  let n := s.draws
  { s with
    rstPend := false
    nmiPend := false
    mode := .run
    cc := { h := Config.freeFlag n, i := true, n := Config.freeFlag (n + 1), z := Config.freeFlag (n + 2),
            v := Config.freeFlag (n + 3), c := Config.freeFlag (n + 4) }
    a := Config.freeByte n
    b := Config.freeByte (n + 1)
    x := Config.freeWord n
    sp := Config.freeWord (n + 1)
    tim := s.tim.afterReset (Config.freeWord (n + 2))
    sci := s.sci.afterReset (Config.freeByte (n + 2)) (Config.freeByte (n + 3)) (Config.freeByte (n + 4))
      (Config.freeByte (n + 5))
    draws := n + 6 }

/-- `ResetSequence()` (R400). -/
def State.resetSequence (s : State) : State := s.resetRegisters.jumpVector s.cfg.vecReset

end Sys2Proof.Machine
end

