-- ==== Sys2Proof/Machine/Operands.lean ====
section
/-!
DEFINITION. Operands and addressing modes (spec/30_encoding.md R91 to R96). An instruction carries its operand bytes, so
a resolver here is what is left of the spec's: the effective address, the literal, the branch target. No resolver charges a
cycle (R102).
-/

namespace Sys2Proof.Machine

/-- `zext_16(v)` (R11). -/
def zext16 (v : Byte) : Word := v.setWidth 16

/-- `sext_16(v)` (R11). -/
def sext16 (v : Byte) : Word := v.signExtend 16

/-- The memory addressing modes (R91, R94). -/
inductive Mem where
  | dir (dd : Byte)
  | idx (ff : Byte)
  | ext (hhll : Word)
deriving DecidableEq, Repr

/-- The effective address (R94): a page-0 address; `X` plus an unsigned offset, modulo 2^16; an absolute address. -/
def Mem.ea (m : Mem) (s : State) : Word :=
  match m with
  | .dir dd => zext16 dd
  | .idx ff => s.x + zext16 ff
  | .ext hhll => hhll

/-- An operand that is read: a literal of `w` bits or memory (R93, R94). -/
inductive Src (w : Nat) where
  | imm (v : BitVec w)
  | mem (m : Mem)
deriving DecidableEq, Repr

/-- `operand8(mode)`: the operand, and the state after the read's side effects (41_arithmetic.md, operand notation). -/
def State.operand8 (s : State) : Src 8 → Byte × State
  | .imm v => (v, s)
  | .mem m => s.read8 (m.ea s)

/-- `operand16(mode)`: the operand, high byte first, and the state after the reads' side effects. -/
def State.operand16 (s : State) : Src 16 → Word × State
  | .imm v => (v, s)
  | .mem m => s.read16 (m.ea s)

/-- The two accumulators (R21). -/
inductive Acc where
  | A
  | B
deriving DecidableEq, Repr

/-- The contents of an accumulator. -/
def State.acc (s : State) : Acc → Byte
  | .A => s.a
  | .B => s.b

/-- Loads an accumulator: "no side effects beyond the stored value" (R21). -/
def State.setAcc (s : State) (r : Acc) (v : Byte) : State :=
  match r with
  | .A => { s with a := v }
  | .B => { s with b := v }

/-- The target of a relative branch (R95): the address of the next instruction, which `PC` holds when an operation body
runs (R25), plus the signed offset. -/
def State.relTarget (s : State) (rr : Byte) : Word := s.pc + sext16 rr

end Sys2Proof.Machine
end

