-- ==== Sys2Proof/Machine/Flags.lean ====
section
/-!
DEFINITION. Results and flags (spec/41_arithmetic.md R150 to R152, R165 to R170; spec/42_shift_rotate.md R180;
spec/44_load_store.md R210; spec/43_bit_memory.md R200), and the conditions of the branches (spec/45_control_flow.md).
Arithmetic is on unbounded integers and is narrowed at the end, as the rules write it. A flag that a rule does not list is
left as it was (R13, R416).
-/

namespace Sys2Proof.Machine

/-- A result with the flags that go with it. -/
structure Res (w : Nat) where
  r : BitVec w
  n : Bool
  z : Bool
  v : Bool
  c : Bool
deriving DecidableEq, Repr

/-- The result and flags of an addition of `w` bits (R150, R152): carry out of the top bit, and overflow when the operands'
signs agree and the result's differs. -/
def addRes (w : Nat) (a b : BitVec w) (cin : Bool) : Res w :=
  let sum := a.toNat + b.toNat + cin.toNat
  let r := BitVec.ofNat w sum
  { r := r, n := r.msb, z := r == 0#w, v := a.msb == b.msb && r.msb != a.msb, c := decide (2 ^ w ≤ sum) }

/-- The half carry of an 8-bit addition: the carry out of bit 3 (R150). -/
def halfCarry (a b : Byte) (cin : Bool) : Bool := decide (15 < a.toNat % 16 + b.toNat % 16 + cin.toNat)

/-- The result and flags of a subtraction of `w` bits (R151, R152): `C` is the borrow, and overflow is when the operands'
signs differ and the result's differs from the minuend's. -/
def subRes (w : Nat) (a b : BitVec w) (bin : Bool) : Res w :=
  let diff : Int := a.toNat - b.toNat - bin.toNat
  let r := BitVec.ofInt w diff
  { r := r, n := r.msb, z := r == 0#w, v := a.msb != b.msb && r.msb != a.msb, c := decide (diff < 0) }

/-- The kinds of shift and rotate (R180). -/
inductive ShiftKind where
  | asl
  | asr
  | lsr
  | rol
  | ror
deriving DecidableEq, Repr

/-- The bit that leaves the operand (R180): the top bit for the left kinds, bit 0 for the right ones. -/
def ShiftKind.out (k : ShiftKind) (w : Nat) (v : BitVec w) : Bool :=
  match k with
  | .asl | .rol => v.msb
  | .asr | .lsr | .ror => v.getLsbD 0

/-- The bit that enters the operand (R180): 0, the old top bit, or the old carry. -/
def ShiftKind.fill (k : ShiftKind) (w : Nat) (v : BitVec w) (cin : Bool) : Bool :=
  match k with
  | .asl | .lsr => false
  | .asr => v.msb
  | .rol | .ror => cin

/-- The new pattern (R180). -/
def ShiftKind.result (k : ShiftKind) (w : Nat) (v : BitVec w) (cin : Bool) : BitVec w :=
  match k with
  | .asl | .rol => BitVec.ofNat w (v.toNat * 2 + (k.fill w v cin).toNat)
  | .asr | .lsr | .ror => BitVec.ofNat w (v.toNat / 2 + (k.fill w v cin).toNat * 2 ^ (w - 1))

/-- `Shift(kind, v, cin, n)` (R180): `V` is the new `N` exclusive-or the new `C`. -/
def shiftRes (k : ShiftKind) (w : Nat) (v : BitVec w) (cin : Bool) : Res w :=
  let r := k.result w v cin
  { r := r, n := r.msb, z := r == 0#w, v := r.msb ^^ k.out w v, c := k.out w v }

/-- Sets `N`, `Z`, `V`, `C` from a result; `H` and `I` stay. -/
def CC.setNzvc {w : Nat} (f : CC) (res : Res w) : CC := { f with n := res.n, z := res.z, v := res.v, c := res.c }

/-- Sets `H`, `N`, `Z`, `V`, `C`; `I` stays (R153 to R156). -/
def CC.setHnzvc {w : Nat} (f : CC) (h : Bool) (res : Res w) : CC := { f.setNzvc res with h := h }

/-- `N` and `Z` from a value, `V` cleared; `C`, `H`, `I` stay: loads and stores (R210), AIM, OIM, EIM, TIM (R200). -/
def CC.setLogic {w : Nat} (f : CC) (r : BitVec w) : CC := { f with n := r.msb, z := r == 0#w, v := false }

/-- `N` and `Z` from a result, `V` as given; `C`, `H`, `I` stay (R167 to R170). -/
def CC.setNzv {w : Nat} (f : CC) (r : BitVec w) (v : Bool) : CC := { f with n := r.msb, z := r == 0#w, v := v }

/-- `Z` from a word; the other flags stay (R171, R172). -/
def CC.setZ (f : CC) (r : Word) : CC := { f with z := r == 0#16 }

/-- The correction that DAA adds (R165): it reads `A`, `H` and `C`. -/
def daaCorrection (a : Byte) (h c : Bool) : Byte :=
  let lsn := a.toNat % 16
  let msn := a.toNat / 16
  (if 9 < lsn || h then 0x06#8 else 0x00#8) ||| (if 9 < msn || c then 0x60#8 else 0x00#8) |||
    (if 8 < msn && 9 < lsn then 0x60#8 else 0x00#8)

/-- The sum that DAA takes (R165), 0 to 357. -/
def daaSum (a : Byte) (h c : Bool) : Nat := a.toNat + (daaCorrection a h c).toNat

/-- The conditions of the sixteen branches (spec/45_control_flow.md R231 to R246). -/
inductive Cond where
  | always
  | never
  | hi
  | ls
  | cc
  | cs
  | ne
  | eq
  | vc
  | vs
  | pl
  | mi
  | ge
  | lt
  | gt
  | le
deriving DecidableEq, Repr

/-- Whether the flags meet a condition (R231 to R246). -/
def CC.holds (f : CC) : Cond → Bool
  | .always => true
  | .never => false
  | .hi => !f.c && !f.z
  | .ls => f.c || f.z
  | .cc => !f.c
  | .cs => f.c
  | .ne => !f.z
  | .eq => f.z
  | .vc => !f.v
  | .vs => f.v
  | .pl => !f.n
  | .mi => f.n
  | .ge => f.n == f.v
  | .lt => f.n != f.v
  | .gt => !f.z && f.n == f.v
  | .le => f.z || f.n != f.v

end Sys2Proof.Machine
end

