-- ==== Sys2Proof/Machine/Arithmetic.lean ====
section
/-!
DEFINITION. The arithmetic instructions (spec/41_arithmetic.md R153 to R172). Each meaning runs with `PC` already past the
instruction; its cost is charged by the step's ACCOUNT phase (R127).
-/

namespace Sys2Proof.Machine

/-- ADDA, ADDB, ADCA, ADCB (R153 to R156): the sum and its five flags; `I` stays. -/
def State.addAcc (s : State) (r : Acc) (cin : Bool) (src : Src 8) : State :=
  let m := s.operand8 src
  (m.2.setAcc r (addRes 8 (s.acc r) m.1 cin).r).setCc
    (m.2.cc.setHnzvc (halfCarry (s.acc r) m.1 cin) (addRes 8 (s.acc r) m.1 cin))

/-- SUBA, SUBB, SBCA, SBCB (R157 to R160): the difference and its four flags; `H` and `I` stay. -/
def State.subAcc (s : State) (r : Acc) (bin : Bool) (src : Src 8) : State :=
  let m := s.operand8 src
  (m.2.setAcc r (subRes 8 (s.acc r) m.1 bin).r).setCc (m.2.cc.setNzvc (subRes 8 (s.acc r) m.1 bin))

/-- CMPA, CMPB (R161, R162): the flags of the subtraction; the difference is discarded. -/
def State.cmpAcc (s : State) (r : Acc) (src : Src 8) : State :=
  let m := s.operand8 src
  m.2.setCc (m.2.cc.setNzvc (subRes 8 (s.acc r) m.1 false))

/-- ADDD (R163). -/
def State.addD (s : State) (src : Src 16) : State :=
  let m := s.operand16 src
  (m.2.setD (addRes 16 s.d m.1 false).r).setCc (m.2.cc.setNzvc (addRes 16 s.d m.1 false))

/-- SUBD (R164). -/
def State.subD (s : State) (src : Src 16) : State :=
  let m := s.operand16 src
  (m.2.setD (subRes 16 s.d m.1 false).r).setCc (m.2.cc.setNzvc (subRes 16 s.d m.1 false))

/-- DAA (R165): "a set carry stays set"; the new `V` is unspecified, a free value (log 7). -/
def State.daa (s : State) : State :=
  let sum := daaSum s.a s.cc.h s.cc.c
  let r : Byte := BitVec.ofNat 8 sum
  { s with
    a := r
    cc := { s.cc with n := r.msb, z := r == 0#8, v := Config.freeFlag s.draws, c := s.cc.c || decide (255 < sum) }
    draws := s.draws + 1 }

/-- MUL (R166): the unsigned product; `C` is bit 7 of its low byte. -/
def State.mul (s : State) : State :=
  let t := BitVec.ofNat 16 (s.a.toNat * s.b.toNat)
  (s.setD t).setCc { s.cc with c := t.getLsbD 7 }

/-- INCA, INCB (R167, R168): `C`, `H`, `I` stay. -/
def State.incAcc (s : State) (r : Acc) : State :=
  let v := s.acc r + 1#8
  (s.setAcc r v).setCc (s.cc.setNzv v (v == 0x80#8))

/-- DECA, DECB (R169, R170): `C`, `H`, `I` stay. -/
def State.decAcc (s : State) (r : Acc) : State :=
  let v := s.acc r - 1#8
  (s.setAcc r v).setCc (s.cc.setNzv v (v == 0x7F#8))

/-- INX (R171): `Z` only. -/
def State.incX (s : State) : State := (s.setX (s.x + 1#16)).setCc (s.cc.setZ (s.x + 1#16))

/-- DEX (R172): `Z` only. -/
def State.decX (s : State) : State := (s.setX (s.x - 1#16)).setCc (s.cc.setZ (s.x - 1#16))

/-- ADDA, immediate (R153). -/
def execAddaImm (ii : Byte) (s : State) : Host.Outcome State Fault Refusal := .next (s.addAcc .A false (.imm ii))

/-- ADDA, direct (R153). -/
def execAddaDir (dd : Byte) (s : State) : Host.Outcome State Fault Refusal :=
  .next (s.addAcc .A false (.mem (.dir dd)))

/-- ADDA, indexed (R153). -/
def execAddaIdx (ff : Byte) (s : State) : Host.Outcome State Fault Refusal :=
  .next (s.addAcc .A false (.mem (.idx ff)))

/-- ADDA, extended (R153). -/
def execAddaExt (hhll : Word) (s : State) : Host.Outcome State Fault Refusal :=
  .next (s.addAcc .A false (.mem (.ext hhll)))

/-- ADDB, immediate (R154). -/
def execAddbImm (ii : Byte) (s : State) : Host.Outcome State Fault Refusal := .next (s.addAcc .B false (.imm ii))

/-- ADDB, direct (R154). -/
def execAddbDir (dd : Byte) (s : State) : Host.Outcome State Fault Refusal :=
  .next (s.addAcc .B false (.mem (.dir dd)))

/-- ADDB, indexed (R154). -/
def execAddbIdx (ff : Byte) (s : State) : Host.Outcome State Fault Refusal :=
  .next (s.addAcc .B false (.mem (.idx ff)))

/-- ADDB, extended (R154). -/
def execAddbExt (hhll : Word) (s : State) : Host.Outcome State Fault Refusal :=
  .next (s.addAcc .B false (.mem (.ext hhll)))

/-- ADCA, immediate (R155). -/
def execAdcaImm (ii : Byte) (s : State) : Host.Outcome State Fault Refusal := .next (s.addAcc .A s.cc.c (.imm ii))

/-- ADCA, direct (R155). -/
def execAdcaDir (dd : Byte) (s : State) : Host.Outcome State Fault Refusal :=
  .next (s.addAcc .A s.cc.c (.mem (.dir dd)))

/-- ADCA, indexed (R155). -/
def execAdcaIdx (ff : Byte) (s : State) : Host.Outcome State Fault Refusal :=
  .next (s.addAcc .A s.cc.c (.mem (.idx ff)))

/-- ADCA, extended (R155). -/
def execAdcaExt (hhll : Word) (s : State) : Host.Outcome State Fault Refusal :=
  .next (s.addAcc .A s.cc.c (.mem (.ext hhll)))

/-- ADCB, immediate (R156). -/
def execAdcbImm (ii : Byte) (s : State) : Host.Outcome State Fault Refusal := .next (s.addAcc .B s.cc.c (.imm ii))

/-- ADCB, direct (R156). -/
def execAdcbDir (dd : Byte) (s : State) : Host.Outcome State Fault Refusal :=
  .next (s.addAcc .B s.cc.c (.mem (.dir dd)))

/-- ADCB, indexed (R156). -/
def execAdcbIdx (ff : Byte) (s : State) : Host.Outcome State Fault Refusal :=
  .next (s.addAcc .B s.cc.c (.mem (.idx ff)))

/-- ADCB, extended (R156). -/
def execAdcbExt (hhll : Word) (s : State) : Host.Outcome State Fault Refusal :=
  .next (s.addAcc .B s.cc.c (.mem (.ext hhll)))

/-- SUBA, immediate (R157). -/
def execSubaImm (ii : Byte) (s : State) : Host.Outcome State Fault Refusal := .next (s.subAcc .A false (.imm ii))

/-- SUBA, direct (R157). -/
def execSubaDir (dd : Byte) (s : State) : Host.Outcome State Fault Refusal :=
  .next (s.subAcc .A false (.mem (.dir dd)))

/-- SUBA, indexed (R157). -/
def execSubaIdx (ff : Byte) (s : State) : Host.Outcome State Fault Refusal :=
  .next (s.subAcc .A false (.mem (.idx ff)))

/-- SUBA, extended (R157). -/
def execSubaExt (hhll : Word) (s : State) : Host.Outcome State Fault Refusal :=
  .next (s.subAcc .A false (.mem (.ext hhll)))

/-- SUBB, immediate (R158). -/
def execSubbImm (ii : Byte) (s : State) : Host.Outcome State Fault Refusal := .next (s.subAcc .B false (.imm ii))

/-- SUBB, direct (R158). -/
def execSubbDir (dd : Byte) (s : State) : Host.Outcome State Fault Refusal :=
  .next (s.subAcc .B false (.mem (.dir dd)))

/-- SUBB, indexed (R158). -/
def execSubbIdx (ff : Byte) (s : State) : Host.Outcome State Fault Refusal :=
  .next (s.subAcc .B false (.mem (.idx ff)))

/-- SUBB, extended (R158). -/
def execSubbExt (hhll : Word) (s : State) : Host.Outcome State Fault Refusal :=
  .next (s.subAcc .B false (.mem (.ext hhll)))

/-- SBCA, immediate (R159). -/
def execSbcaImm (ii : Byte) (s : State) : Host.Outcome State Fault Refusal := .next (s.subAcc .A s.cc.c (.imm ii))

/-- SBCA, direct (R159). -/
def execSbcaDir (dd : Byte) (s : State) : Host.Outcome State Fault Refusal :=
  .next (s.subAcc .A s.cc.c (.mem (.dir dd)))

/-- SBCA, indexed (R159). -/
def execSbcaIdx (ff : Byte) (s : State) : Host.Outcome State Fault Refusal :=
  .next (s.subAcc .A s.cc.c (.mem (.idx ff)))

/-- SBCA, extended (R159). -/
def execSbcaExt (hhll : Word) (s : State) : Host.Outcome State Fault Refusal :=
  .next (s.subAcc .A s.cc.c (.mem (.ext hhll)))

/-- SBCB, immediate (R160). -/
def execSbcbImm (ii : Byte) (s : State) : Host.Outcome State Fault Refusal := .next (s.subAcc .B s.cc.c (.imm ii))

/-- SBCB, direct (R160). -/
def execSbcbDir (dd : Byte) (s : State) : Host.Outcome State Fault Refusal :=
  .next (s.subAcc .B s.cc.c (.mem (.dir dd)))

/-- SBCB, indexed (R160). -/
def execSbcbIdx (ff : Byte) (s : State) : Host.Outcome State Fault Refusal :=
  .next (s.subAcc .B s.cc.c (.mem (.idx ff)))

/-- SBCB, extended (R160). -/
def execSbcbExt (hhll : Word) (s : State) : Host.Outcome State Fault Refusal :=
  .next (s.subAcc .B s.cc.c (.mem (.ext hhll)))

/-- CMPA, immediate (R161). -/
def execCmpaImm (ii : Byte) (s : State) : Host.Outcome State Fault Refusal := .next (s.cmpAcc .A (.imm ii))

/-- CMPA, direct (R161). -/
def execCmpaDir (dd : Byte) (s : State) : Host.Outcome State Fault Refusal := .next (s.cmpAcc .A (.mem (.dir dd)))

/-- CMPA, indexed (R161). -/
def execCmpaIdx (ff : Byte) (s : State) : Host.Outcome State Fault Refusal := .next (s.cmpAcc .A (.mem (.idx ff)))

/-- CMPA, extended (R161). -/
def execCmpaExt (hhll : Word) (s : State) : Host.Outcome State Fault Refusal := .next (s.cmpAcc .A (.mem (.ext hhll)))

/-- CMPB, immediate (R162). -/
def execCmpbImm (ii : Byte) (s : State) : Host.Outcome State Fault Refusal := .next (s.cmpAcc .B (.imm ii))

/-- CMPB, direct (R162). -/
def execCmpbDir (dd : Byte) (s : State) : Host.Outcome State Fault Refusal := .next (s.cmpAcc .B (.mem (.dir dd)))

/-- CMPB, indexed (R162). -/
def execCmpbIdx (ff : Byte) (s : State) : Host.Outcome State Fault Refusal := .next (s.cmpAcc .B (.mem (.idx ff)))

/-- CMPB, extended (R162). -/
def execCmpbExt (hhll : Word) (s : State) : Host.Outcome State Fault Refusal := .next (s.cmpAcc .B (.mem (.ext hhll)))

/-- ADDD, immediate (R163). -/
def execAdddImm (jjkk : Word) (s : State) : Host.Outcome State Fault Refusal := .next (s.addD (.imm jjkk))

/-- ADDD, direct (R163). -/
def execAdddDir (dd : Byte) (s : State) : Host.Outcome State Fault Refusal := .next (s.addD (.mem (.dir dd)))

/-- ADDD, indexed (R163). -/
def execAdddIdx (ff : Byte) (s : State) : Host.Outcome State Fault Refusal := .next (s.addD (.mem (.idx ff)))

/-- ADDD, extended (R163). -/
def execAdddExt (hhll : Word) (s : State) : Host.Outcome State Fault Refusal := .next (s.addD (.mem (.ext hhll)))

/-- SUBD, immediate (R164). -/
def execSubdImm (jjkk : Word) (s : State) : Host.Outcome State Fault Refusal := .next (s.subD (.imm jjkk))

/-- SUBD, direct (R164). -/
def execSubdDir (dd : Byte) (s : State) : Host.Outcome State Fault Refusal := .next (s.subD (.mem (.dir dd)))

/-- SUBD, indexed (R164). -/
def execSubdIdx (ff : Byte) (s : State) : Host.Outcome State Fault Refusal := .next (s.subD (.mem (.idx ff)))

/-- SUBD, extended (R164). -/
def execSubdExt (hhll : Word) (s : State) : Host.Outcome State Fault Refusal := .next (s.subD (.mem (.ext hhll)))

/-- DAA (R165). -/
def execDaa (s : State) : Host.Outcome State Fault Refusal := .next s.daa

/-- MUL (R166). -/
def execMul (s : State) : Host.Outcome State Fault Refusal := .next s.mul

/-- INCA (R167). -/
def execInca (s : State) : Host.Outcome State Fault Refusal := .next (s.incAcc .A)

/-- INCB (R168). -/
def execIncb (s : State) : Host.Outcome State Fault Refusal := .next (s.incAcc .B)

/-- DECA (R169). -/
def execDeca (s : State) : Host.Outcome State Fault Refusal := .next (s.decAcc .A)

/-- DECB (R170). -/
def execDecb (s : State) : Host.Outcome State Fault Refusal := .next (s.decAcc .B)

/-- INX (R171). -/
def execInx (s : State) : Host.Outcome State Fault Refusal := .next s.incX

/-- DEX (R172). -/
def execDex (s : State) : Host.Outcome State Fault Refusal := .next s.decX

end Sys2Proof.Machine
end

