-- ==== Sys2Proof/Machine/BitMemory.lean ====
section
/-!
DEFINITION. The mask-and-memory instructions (spec/43_bit_memory.md R200 to R204).
-/

namespace Sys2Proof.Machine

/-- AIM, OIM, EIM (R200 to R203): read, combine, write back, set the flags. "The write happens even when `r == m`". -/
def State.updateMem (s : State) (m : Mem) (f : Byte → Byte) : State :=
  let ea := m.ea s
  let rd := s.read8 ea
  let t := rd.2.write8 ea (f rd.1)
  t.setCc (t.cc.setLogic (f rd.1))

/-- TIM (R200, R204): the read and the flags; "no write occurs, so no write side effect". -/
def State.testMem (s : State) (m : Mem) (f : Byte → Byte) : State :=
  let rd := s.read8 (m.ea s)
  rd.2.setCc (rd.2.cc.setLogic (f rd.1))

/-- AIM, indexed (R201). -/
def execAimIdx (ii : Byte) (ff : Byte) (s : State) : Host.Outcome State Fault Refusal :=
  .next (s.updateMem (.idx ff) fun m => m &&& ii)

/-- AIM, direct (R201). -/
def execAimDir (ii : Byte) (dd : Byte) (s : State) : Host.Outcome State Fault Refusal :=
  .next (s.updateMem (.dir dd) fun m => m &&& ii)

/-- OIM, indexed (R202). -/
def execOimIdx (ii : Byte) (ff : Byte) (s : State) : Host.Outcome State Fault Refusal :=
  .next (s.updateMem (.idx ff) fun m => m ||| ii)

/-- OIM, direct (R202). -/
def execOimDir (ii : Byte) (dd : Byte) (s : State) : Host.Outcome State Fault Refusal :=
  .next (s.updateMem (.dir dd) fun m => m ||| ii)

/-- EIM, indexed (R203). -/
def execEimIdx (ii : Byte) (ff : Byte) (s : State) : Host.Outcome State Fault Refusal :=
  .next (s.updateMem (.idx ff) fun m => m ^^^ ii)

/-- EIM, direct (R203). -/
def execEimDir (ii : Byte) (dd : Byte) (s : State) : Host.Outcome State Fault Refusal :=
  .next (s.updateMem (.dir dd) fun m => m ^^^ ii)

/-- TIM, indexed (R204). -/
def execTimIdx (ii : Byte) (ff : Byte) (s : State) : Host.Outcome State Fault Refusal :=
  .next (s.testMem (.idx ff) fun m => m &&& ii)

/-- TIM, direct (R204). -/
def execTimDir (ii : Byte) (dd : Byte) (s : State) : Host.Outcome State Fault Refusal :=
  .next (s.testMem (.dir dd) fun m => m &&& ii)

end Sys2Proof.Machine
end

