-- ==== Sys2Proof/Machine/ControlFlow.lean ====
section
/-!
DEFINITION. The branches, jumps, calls and returns, NOP and the condition-code instructions (spec/45_control_flow.md R230 to
R259). `PC` is the address of the next instruction when a meaning runs (R25, R230).
-/

namespace Sys2Proof.Machine

/-- The branch template (R230): "writes no flag and no register but `PC`". -/
def State.branch (s : State) (k : Cond) (rr : Byte) : State := if s.cc.holds k then s.setPc (s.relTarget rr) else s

/-- JSR, BSR (R248, R249): pushes the address of the next instruction and goes to the target. -/
def State.call (s : State) (target : Word) : State := (s.push16 s.pc).setPc target

/-- RTS (R250). -/
def State.returnFromCall (s : State) : State :=
  let r := s.pull16
  r.2.setPc r.1

/-- BRA (R231). -/
def execBra (rr : Byte) (s : State) : Host.Outcome State Fault Refusal := .next (s.branch .always rr)

/-- BRN (R232). -/
def execBrn (rr : Byte) (s : State) : Host.Outcome State Fault Refusal := .next (s.branch .never rr)

/-- BHI (R233). -/
def execBhi (rr : Byte) (s : State) : Host.Outcome State Fault Refusal := .next (s.branch .hi rr)

/-- BLS (R234). -/
def execBls (rr : Byte) (s : State) : Host.Outcome State Fault Refusal := .next (s.branch .ls rr)

/-- BCC (R235). -/
def execBcc (rr : Byte) (s : State) : Host.Outcome State Fault Refusal := .next (s.branch .cc rr)

/-- BCS (R236). -/
def execBcs (rr : Byte) (s : State) : Host.Outcome State Fault Refusal := .next (s.branch .cs rr)

/-- BNE (R237). -/
def execBne (rr : Byte) (s : State) : Host.Outcome State Fault Refusal := .next (s.branch .ne rr)

/-- BEQ (R238). -/
def execBeq (rr : Byte) (s : State) : Host.Outcome State Fault Refusal := .next (s.branch .eq rr)

/-- BVC (R239). -/
def execBvc (rr : Byte) (s : State) : Host.Outcome State Fault Refusal := .next (s.branch .vc rr)

/-- BVS (R240). -/
def execBvs (rr : Byte) (s : State) : Host.Outcome State Fault Refusal := .next (s.branch .vs rr)

/-- BPL (R241). -/
def execBpl (rr : Byte) (s : State) : Host.Outcome State Fault Refusal := .next (s.branch .pl rr)

/-- BMI (R242). -/
def execBmi (rr : Byte) (s : State) : Host.Outcome State Fault Refusal := .next (s.branch .mi rr)

/-- BGE (R243). -/
def execBge (rr : Byte) (s : State) : Host.Outcome State Fault Refusal := .next (s.branch .ge rr)

/-- BLT (R244). -/
def execBlt (rr : Byte) (s : State) : Host.Outcome State Fault Refusal := .next (s.branch .lt rr)

/-- BGT (R245). -/
def execBgt (rr : Byte) (s : State) : Host.Outcome State Fault Refusal := .next (s.branch .gt rr)

/-- BLE (R246). -/
def execBle (rr : Byte) (s : State) : Host.Outcome State Fault Refusal := .next (s.branch .le rr)

/-- JMP, indexed (R247). -/
def execJmpIdx (ff : Byte) (s : State) : Host.Outcome State Fault Refusal := .next (s.setPc (Mem.ea (.idx ff) s))

/-- JMP, extended (R247). -/
def execJmpExt (hhll : Word) (s : State) : Host.Outcome State Fault Refusal := .next (s.setPc (Mem.ea (.ext hhll) s))

/-- JSR, direct (R248). -/
def execJsrDir (dd : Byte) (s : State) : Host.Outcome State Fault Refusal := .next (s.call (Mem.ea (.dir dd) s))

/-- JSR, indexed (R248). -/
def execJsrIdx (ff : Byte) (s : State) : Host.Outcome State Fault Refusal := .next (s.call (Mem.ea (.idx ff) s))

/-- JSR, extended (R248). -/
def execJsrExt (hhll : Word) (s : State) : Host.Outcome State Fault Refusal := .next (s.call (Mem.ea (.ext hhll) s))

/-- BSR (R249). -/
def execBsr (rr : Byte) (s : State) : Host.Outcome State Fault Refusal := .next (s.call (s.relTarget rr))

/-- RTS (R250). -/
def execRts (s : State) : Host.Outcome State Fault Refusal := .next s.returnFromCall

/-- NOP (R251). -/
def execNop (s : State) : Host.Outcome State Fault Refusal := .next s

/-- TAP (R252). -/
def execTap (s : State) : Host.Outcome State Fault Refusal := .next (s.setCc (CC.ofByte s.a))

/-- TPA (R253). -/
def execTpa (s : State) : Host.Outcome State Fault Refusal := .next (s.setAcc .A s.cc.toByte)

/-- CLV (R254). -/
def execClv (s : State) : Host.Outcome State Fault Refusal := .next (s.setCc { s.cc with v := false })

/-- SEV (R255). -/
def execSev (s : State) : Host.Outcome State Fault Refusal := .next (s.setCc { s.cc with v := true })

/-- CLC (R256). -/
def execClc (s : State) : Host.Outcome State Fault Refusal := .next (s.setCc { s.cc with c := false })

/-- SEC (R257). -/
def execSec (s : State) : Host.Outcome State Fault Refusal := .next (s.setCc { s.cc with c := true })

/-- CLI (R258). -/
def execCli (s : State) : Host.Outcome State Fault Refusal := .next (s.setCc { s.cc with i := false })

/-- SEI (R259). -/
def execSei (s : State) : Host.Outcome State Fault Refusal := .next (s.setCc { s.cc with i := true })

end Sys2Proof.Machine
end

