-- ==== Sys2Proof/Machine/LoadStore.lean ====
section
/-!
DEFINITION. The loads and stores (spec/44_load_store.md R210 to R219).
-/

namespace Sys2Proof.Machine

/-- LDAA, LDAB (R211, R212). -/
def State.loadAcc (s : State) (r : Acc) (src : Src 8) : State :=
  let m := s.operand8 src
  (m.2.setAcc r m.1).setCc (m.2.cc.setLogic m.1)

/-- STAA, STAB (R213, R214). -/
def State.storeAcc (s : State) (r : Acc) (m : Mem) : State :=
  let t := s.write8 (m.ea s) (s.acc r)
  t.setCc (t.cc.setLogic (s.acc r))

/-- LDD (R215). -/
def State.loadD (s : State) (src : Src 16) : State :=
  let m := s.operand16 src
  (m.2.setD m.1).setCc (m.2.cc.setLogic m.1)

/-- LDX (R217): the address of the indexed form is computed from the old `X`. -/
def State.loadX (s : State) (src : Src 16) : State :=
  let m := s.operand16 src
  (m.2.setX m.1).setCc (m.2.cc.setLogic m.1)

/-- LDS (R219). -/
def State.loadSp (s : State) (src : Src 16) : State :=
  let m := s.operand16 src
  (m.2.setSp m.1).setCc (m.2.cc.setLogic m.1)

/-- STD (R216): the high byte at `EA` first, then the low byte at `EA + 1`. -/
def State.storeD (s : State) (m : Mem) : State :=
  let t := s.write16 (m.ea s) s.d
  t.setCc (t.cc.setLogic s.d)

/-- STX (R218). -/
def State.storeX (s : State) (m : Mem) : State :=
  let t := s.write16 (m.ea s) s.x
  t.setCc (t.cc.setLogic s.x)

/-- LDAA, immediate (R211). -/
def execLdaaImm (ii : Byte) (s : State) : Host.Outcome State Fault Refusal := .next (s.loadAcc .A (.imm ii))

/-- LDAA, direct (R211). -/
def execLdaaDir (dd : Byte) (s : State) : Host.Outcome State Fault Refusal := .next (s.loadAcc .A (.mem (.dir dd)))

/-- LDAA, indexed (R211). -/
def execLdaaIdx (ff : Byte) (s : State) : Host.Outcome State Fault Refusal := .next (s.loadAcc .A (.mem (.idx ff)))

/-- LDAA, extended (R211). -/
def execLdaaExt (hhll : Word) (s : State) : Host.Outcome State Fault Refusal :=
  .next (s.loadAcc .A (.mem (.ext hhll)))

/-- LDAB, immediate (R212). -/
def execLdabImm (ii : Byte) (s : State) : Host.Outcome State Fault Refusal := .next (s.loadAcc .B (.imm ii))

/-- LDAB, direct (R212). -/
def execLdabDir (dd : Byte) (s : State) : Host.Outcome State Fault Refusal := .next (s.loadAcc .B (.mem (.dir dd)))

/-- LDAB, indexed (R212). -/
def execLdabIdx (ff : Byte) (s : State) : Host.Outcome State Fault Refusal := .next (s.loadAcc .B (.mem (.idx ff)))

/-- LDAB, extended (R212). -/
def execLdabExt (hhll : Word) (s : State) : Host.Outcome State Fault Refusal :=
  .next (s.loadAcc .B (.mem (.ext hhll)))

/-- STAA, direct (R213). -/
def execStaaDir (dd : Byte) (s : State) : Host.Outcome State Fault Refusal := .next (s.storeAcc .A (.dir dd))

/-- STAA, indexed (R213). -/
def execStaaIdx (ff : Byte) (s : State) : Host.Outcome State Fault Refusal := .next (s.storeAcc .A (.idx ff))

/-- STAA, extended (R213). -/
def execStaaExt (hhll : Word) (s : State) : Host.Outcome State Fault Refusal := .next (s.storeAcc .A (.ext hhll))

/-- STAB, direct (R214). -/
def execStabDir (dd : Byte) (s : State) : Host.Outcome State Fault Refusal := .next (s.storeAcc .B (.dir dd))

/-- STAB, indexed (R214). -/
def execStabIdx (ff : Byte) (s : State) : Host.Outcome State Fault Refusal := .next (s.storeAcc .B (.idx ff))

/-- STAB, extended (R214). -/
def execStabExt (hhll : Word) (s : State) : Host.Outcome State Fault Refusal := .next (s.storeAcc .B (.ext hhll))

/-- LDD, immediate (R215). -/
def execLddImm (jjkk : Word) (s : State) : Host.Outcome State Fault Refusal := .next (s.loadD (.imm jjkk))

/-- LDD, direct (R215). -/
def execLddDir (dd : Byte) (s : State) : Host.Outcome State Fault Refusal := .next (s.loadD (.mem (.dir dd)))

/-- LDD, indexed (R215). -/
def execLddIdx (ff : Byte) (s : State) : Host.Outcome State Fault Refusal := .next (s.loadD (.mem (.idx ff)))

/-- LDD, extended (R215). -/
def execLddExt (hhll : Word) (s : State) : Host.Outcome State Fault Refusal := .next (s.loadD (.mem (.ext hhll)))

/-- STD, direct (R216). -/
def execStdDir (dd : Byte) (s : State) : Host.Outcome State Fault Refusal := .next (s.storeD (.dir dd))

/-- STD, indexed (R216). -/
def execStdIdx (ff : Byte) (s : State) : Host.Outcome State Fault Refusal := .next (s.storeD (.idx ff))

/-- STD, extended (R216). -/
def execStdExt (hhll : Word) (s : State) : Host.Outcome State Fault Refusal := .next (s.storeD (.ext hhll))

/-- LDX, immediate (R217). -/
def execLdxImm (jjkk : Word) (s : State) : Host.Outcome State Fault Refusal := .next (s.loadX (.imm jjkk))

/-- LDX, direct (R217). -/
def execLdxDir (dd : Byte) (s : State) : Host.Outcome State Fault Refusal := .next (s.loadX (.mem (.dir dd)))

/-- LDX, indexed (R217). -/
def execLdxIdx (ff : Byte) (s : State) : Host.Outcome State Fault Refusal := .next (s.loadX (.mem (.idx ff)))

/-- LDX, extended (R217). -/
def execLdxExt (hhll : Word) (s : State) : Host.Outcome State Fault Refusal := .next (s.loadX (.mem (.ext hhll)))

/-- STX, direct (R218). -/
def execStxDir (dd : Byte) (s : State) : Host.Outcome State Fault Refusal := .next (s.storeX (.dir dd))

/-- STX, indexed (R218). -/
def execStxIdx (ff : Byte) (s : State) : Host.Outcome State Fault Refusal := .next (s.storeX (.idx ff))

/-- STX, extended (R218). -/
def execStxExt (hhll : Word) (s : State) : Host.Outcome State Fault Refusal := .next (s.storeX (.ext hhll))

/-- LDS, immediate (R219). -/
def execLdsImm (jjkk : Word) (s : State) : Host.Outcome State Fault Refusal := .next (s.loadSp (.imm jjkk))

/-- LDS, direct (R219). -/
def execLdsDir (dd : Byte) (s : State) : Host.Outcome State Fault Refusal := .next (s.loadSp (.mem (.dir dd)))

/-- LDS, indexed (R219). -/
def execLdsIdx (ff : Byte) (s : State) : Host.Outcome State Fault Refusal := .next (s.loadSp (.mem (.idx ff)))

/-- LDS, extended (R219). -/
def execLdsExt (hhll : Word) (s : State) : Host.Outcome State Fault Refusal := .next (s.loadSp (.mem (.ext hhll)))

end Sys2Proof.Machine
end

