-- ==== Sys2Proof/Machine/Shift.lean ====
section
/-!
DEFINITION. The shift and rotate instructions (spec/42_shift_rotate.md R181 to R197).
-/

namespace Sys2Proof.Machine

/-- The five 8-bit operations on an accumulator (R181, R182, R184, R185, R187, R188, R190, R191, R193, R194). -/
def State.shiftAcc (s : State) (k : ShiftKind) (r : Acc) : State :=
  let res := shiftRes k 8 (s.acc r) s.cc.c
  (s.setAcc r res.r).setCc (s.cc.setNzvc res)

/-- The five 8-bit operations on a memory byte (R183, R186, R189, R192, R195): "one read then one write of the same
address, with nothing between them". -/
def State.shiftMem (s : State) (k : ShiftKind) (m : Mem) : State :=
  let ea := m.ea s
  let rd := s.read8 ea
  let res := shiftRes k 8 rd.1 s.cc.c
  let t := rd.2.write8 ea res.r
  t.setCc (t.cc.setNzvc res)

/-- ASLD and LSRD (R196, R197). -/
def State.shiftD (s : State) (k : ShiftKind) : State :=
  let res := shiftRes k 16 s.d s.cc.c
  (s.setD res.r).setCc (s.cc.setNzvc res)

/-- ASLA (R181). -/
def execAsla (s : State) : Host.Outcome State Fault Refusal := .next (s.shiftAcc .asl .A)

/-- ASLB (R182). -/
def execAslb (s : State) : Host.Outcome State Fault Refusal := .next (s.shiftAcc .asl .B)

/-- ASL, indexed (R183). -/
def execAslIdx (ff : Byte) (s : State) : Host.Outcome State Fault Refusal := .next (s.shiftMem .asl (.idx ff))

/-- ASL, extended (R183). -/
def execAslExt (hhll : Word) (s : State) : Host.Outcome State Fault Refusal := .next (s.shiftMem .asl (.ext hhll))

/-- ASRA (R184). -/
def execAsra (s : State) : Host.Outcome State Fault Refusal := .next (s.shiftAcc .asr .A)

/-- ASRB (R185). -/
def execAsrb (s : State) : Host.Outcome State Fault Refusal := .next (s.shiftAcc .asr .B)

/-- ASR, indexed (R186). -/
def execAsrIdx (ff : Byte) (s : State) : Host.Outcome State Fault Refusal := .next (s.shiftMem .asr (.idx ff))

/-- ASR, extended (R186). -/
def execAsrExt (hhll : Word) (s : State) : Host.Outcome State Fault Refusal := .next (s.shiftMem .asr (.ext hhll))

/-- LSRA (R187). -/
def execLsra (s : State) : Host.Outcome State Fault Refusal := .next (s.shiftAcc .lsr .A)

/-- LSRB (R188). -/
def execLsrb (s : State) : Host.Outcome State Fault Refusal := .next (s.shiftAcc .lsr .B)

/-- LSR, indexed (R189). -/
def execLsrIdx (ff : Byte) (s : State) : Host.Outcome State Fault Refusal := .next (s.shiftMem .lsr (.idx ff))

/-- LSR, extended (R189). -/
def execLsrExt (hhll : Word) (s : State) : Host.Outcome State Fault Refusal := .next (s.shiftMem .lsr (.ext hhll))

/-- ROLA (R190). -/
def execRola (s : State) : Host.Outcome State Fault Refusal := .next (s.shiftAcc .rol .A)

/-- ROLB (R191). -/
def execRolb (s : State) : Host.Outcome State Fault Refusal := .next (s.shiftAcc .rol .B)

/-- ROL, indexed (R192). -/
def execRolIdx (ff : Byte) (s : State) : Host.Outcome State Fault Refusal := .next (s.shiftMem .rol (.idx ff))

/-- ROL, extended (R192). -/
def execRolExt (hhll : Word) (s : State) : Host.Outcome State Fault Refusal := .next (s.shiftMem .rol (.ext hhll))

/-- RORA (R193). -/
def execRora (s : State) : Host.Outcome State Fault Refusal := .next (s.shiftAcc .ror .A)

/-- RORB (R194). -/
def execRorb (s : State) : Host.Outcome State Fault Refusal := .next (s.shiftAcc .ror .B)

/-- ROR, indexed (R195). -/
def execRorIdx (ff : Byte) (s : State) : Host.Outcome State Fault Refusal := .next (s.shiftMem .ror (.idx ff))

/-- ROR, extended (R195). -/
def execRorExt (hhll : Word) (s : State) : Host.Outcome State Fault Refusal := .next (s.shiftMem .ror (.ext hhll))

/-- ASLD (R196). -/
def execAsld (s : State) : Host.Outcome State Fault Refusal := .next (s.shiftD .asl)

/-- LSRD (R197). -/
def execLsrd (s : State) : Host.Outcome State Fault Refusal := .next (s.shiftD .lsr)

end Sys2Proof.Machine
end

