-- ==== Sys2Proof/Machine/System.lean ====
section
/-!
DEFINITION. WAI, SLP and RTI, and the illegal slots (spec/46_system.md R270 to R274).
-/

namespace Sys2Proof.Machine

/-- WAI (R270). -/
def execWai (s : State) : Host.Outcome State Fault Refusal := .next (s.setMode .waitWai)

/-- SLP (R271). -/
def execSlp (s : State) : Host.Outcome State Fault Refusal := .next (s.setMode .waitSlp)

/-- RTI (R272). -/
def execRti (s : State) : Host.Outcome State Fault Refusal := .next s.returnFromInterrupt

/-- The illegal slot 0x00 (R273, R274). -/
def execIllegal00 (s : State) : Host.Outcome State Fault Refusal := .next s.illegalSlot

/-- The illegal slot 0x02 (R273, R274). -/
def execIllegal02 (s : State) : Host.Outcome State Fault Refusal := .next s.illegalSlot

/-- The illegal slot 0x03 (R273, R274). -/
def execIllegal03 (s : State) : Host.Outcome State Fault Refusal := .next s.illegalSlot

end Sys2Proof.Machine
end

