-- ==== Sys2Proof/Machine/Fetch.lean ====
section
/-!
DEFINITION. The FETCH and DECODE phases of a step (spec/40_dispatch_fsm.md R123, R124), with the fetch of the operand bytes
(spec/30_encoding.md R92), over the dispatch table of the configuration (R98).
-/

namespace Sys2Proof.Machine

/-- The entry of the reference table (R97). A slot whose operation the capability record leaves out is `unspecified`,
unless the configuration's table gives it another entry (R6; DEDUCED, safe, log 12). -/
def referenceEntry (c : Config) (op : Byte) : Entry :=
  match rowOf op with
  | none => .unspecified
  | some r =>
    if r.slot.isIllegal then .illegal c.cIllegal
    else if c.hasOperation op then .op op r.cycles
    else .unspecified

/-- `DISPATCH[op]` (R98, R124): "a pure function of the opcode byte". -/
def entryOf (c : Config) (op : Byte) : Entry :=
  match c.table.find? fun e => e.1 == op with
  | some e => e.2
  | none => referenceEntry c op

/-- The cost of a slot (R127): the declared cycles of an `op` entry and of an `illegal` one under the policy `nop`;
`C_TRAP` for an `illegal` one under `trap`. -/
def slotCost (c : Config) (op : Byte) : Nat :=
  match entryOf c op with
  | .op _ cycles => cycles
  | .illegal cycles =>
    match c.illegalPolicy with
    | .nop => cycles
    | .trap => c.cTrap
  | .unspecified => 0

/-- The instruction of an illegal slot. The three of R97 are told apart by their bytes; every other illegal slot acts the
same (R273, R274) and is shown by the first. -/
def illegalAt (op : Byte) : Instr :=
  if op = 0x02#8 then .illegal02 else if op = 0x03#8 then .illegal03 else .illegal00

/-- How many bytes the instruction of a slot has, opcode byte included; one for a slot without an operation (R90, R273). -/
def slotLength (c : Config) (op : Byte) : Nat :=
  match entryOf c op with
  | .op slot _ => (lengthOf slot).getD 1
  | .illegal _ | .unspecified => 1

/-- The instruction that the table gives an opcode byte with its operand bytes (R98). -/
def dispatch (c : Config) (op : Byte) (operands : List Byte) : Option Instr :=
  match entryOf c op with
  | .op slot _ =>
    match decode (slot :: operands) with
    | .ok p => some p.1
    | .error _ => none
  | .illegal _ => some (illegalAt op)
  | .unspecified => none

/-- `Fetch8()` (R92): the byte at `PC`, which moves on; a claimed window offset is refused (R79). An unclaimed address is
"an ordinary `ExtRead`". -/
def State.fetch8 (s : State) : Except Refusal (Byte × State) :=
  match windowReg s.cfg s.pc with
  | some _ => .error (.fetchFromWindow s.pc)
  | none => .ok (s.extRead s.pc, (s.extReadEffect s.pc).setPc (s.pc + 1#16))

/-- `n` bytes, "in ascending address order" (R64, R90). -/
def State.fetchMany (s : State) : Nat → Except Refusal (List Byte × State)
  | 0 => .ok ([], s)
  | n + 1 =>
    match s.fetch8 with
    | .error e => .error e
    | .ok b =>
      match b.2.fetchMany n with
      | .error e => .error e
      | .ok bs => .ok (b.1 :: bs.1, bs.2)

/-- FETCH and DECODE (R123, R124): the opcode byte, its instruction, and the state with `PC` past the instruction (R25).
All bytes of an instruction are fetched before its first other effect (R125; DEDUCED, safe, log 21). -/
def State.fetch (s : State) : Except Refusal (Byte × Instr × State) :=
  match s.fetch8 with
  | .error e => .error e
  | .ok op =>
    match op.2.fetchMany (slotLength s.cfg op.1 - 1) with
    | .error e => .error e
    | .ok operands =>
      match dispatch s.cfg op.1 operands.1 with
      | none => .error (.unspecifiedSlot op.1 op.2)
      | some i => .ok (op.1, i, operands.2)

end Sys2Proof.Machine
end

