-- ==== Sys2Proof/Machine/Fsm.lean ====
section
/-!
DEFINITION. The ACCOUNT phase of a step (spec/40_dispatch_fsm.md R121, R127): the cycles of the step are charged, and the
timer and then the UART are advanced by them.
-/

namespace Sys2Proof.Machine

/-- `TimerAdvance(n)` (R300); nothing on a variant without the timer (R317). -/
def State.timerAdvance (s : State) (n : Nat) : State :=
  if s.cfg.hasTimer then { s with tim := s.tim.advance n } else s

/-- `SerialAdvance(n)` (R340); nothing on a variant without the UART (R362). -/
def State.serialAdvance (s : State) (n : Nat) : State :=
  if s.cfg.hasSci then { s with sci := s.sci.advance s.cfg n } else s

/-- Charges `c` cycles: `ICOUNT` down, `TOTAL` up. -/
def State.charge (s : State) (c : Nat) : State := { s with icount := s.icount - c, total := s.total + c }

/-- ACCOUNT (R127): "the timer first". -/
def State.account (s : State) (c : Nat) : State :=
  if c = 0 then s.charge 0 else ((s.charge c).timerAdvance c).serialAdvance c

end Sys2Proof.Machine
end

