-- ==== Sys2Proof/Machine/Step.lean ====
section
/-!
DEFINITION. The step of the dispatch FSM (spec/40_dispatch_fsm.md R121), and the state in which the very next step runs a
given instruction.
-/

namespace Sys2Proof.Machine

/-- The part of a step that fetches and runs an instruction (R123 to R127): FETCH, DECODE, EXECUTE, ACCOUNT. -/
def State.runInstruction (s : State) : Host.Outcome State Fault Refusal :=
  match s.fetch with
  | .error r => .refused r
  | .ok f =>
    match exec f.2.1 f.2.2 with
    | .next t => .next (t.account (slotCost s.cfg f.1))
    | .fault e => .fault e
    | .refused r => .refused r

/-- A step of a machine that can be constructed (R121): the poll, then a reset, an interrupt entry, a waiting cycle or an
instruction, then the accounting of its cycles. -/
def State.dispatchStep (s : State) : Host.Outcome State Fault Refusal :=
  match s.poll with
  | some .reset => .next (s.resetSequence.account 0)
  | some src => .next ((s.takeInterrupt src).account s.cfg.cInt)
  | none =>
    match s.mode with
    | .waitWai | .waitSlp => .next (s.account 1)
    | .run => s.runInstruction

/-- `Step()` (R121). A configuration that is not well formed is no machine (R7, R273; log 15). -/
def step (s : State) : Host.Outcome State Fault Refusal :=
  if s.cfg.wf then s.dispatchStep else .fault .malformedConfiguration

/-- Whether the next step fetches an instruction of the reference table, at `PC`: the configuration is well formed and has
every instruction of R97, nothing is to be taken, no wait, and the three bytes at `PC` are plain memory. -/
def State.readyToFetch (s : State) : Bool :=
  s.cfg.wf && s.cfg.table.isEmpty && s.cfg.hasD && s.cfg.hasExtOps && s.poll.isNone && s.mode == .run &&
    [s.pc, s.pc + 1#16, s.pc + 2#16].all (plainAddr s.cfg)

/-- The least change that makes a state ready to fetch, for a state that is not: the reference configuration, no reset or
NMI latched, the mask set, running, and `PC` at an address that is neither window nor vector (log 16). -/
def State.madeReady (s : State) : State :=
  { s with
    cfg := Config.reference, rstPend := false, nmiPend := false, cc := { s.cc with i := true }, mode := .run
    pc := 0x1000#16 }

/-- The bytes at successive addresses from `addr`. -/
def State.placeBytes (s : State) (addr : Word) : List Byte → State
  | [] => s
  | b :: bs => State.placeBytes { s with mem := s.mem.write addr b } (addr + 1#16) bs

/-- The host's: `s` with an instruction stored where `step` fetches its next one, so that the next step runs it (log 16).
`PC` is where a step fetches; nothing else changes when the state is ready to fetch there, as `State.reset` is. -/
def State.withFetchWord (s : State) (nbits w : Nat) : State :=
  let s := if s.readyToFetch then s else s.madeReady
  s.placeBytes s.pc (tableBytes nbits w)

end Sys2Proof.Machine
end

