-- ==== Sys2Proof/Machine/HostOps.lean ====
section
/-!
DEFINITION. The host operations of spec/40_dispatch_fsm.md R141 that act between steps and consume no cycles: the input
lines, the reset, the serial clock. `Peek` is `State.peek` (Ops.lean), `Run` is in Run.lean, and the read of `TXD_LINE` is
`State.readTxd`. They are functions of the state, applied between two steps (log 20).
-/

namespace Sys2Proof.Machine

/-- The input lines of R10 that a host drives with `SetLine` (R141). -/
inductive Line where
  | reset
  | nmi
  | irq
  | tin
  | rxd
deriving DecidableEq, Repr

/-- The level a line was last driven to (R28). -/
def State.lineLevel (s : State) : Line → Bool
  | .reset => s.resetLine
  | .nmi => s.nmiLine
  | .irq => s.irqLine
  | .tin => s.tim.tinLine
  | .rxd => s.sci.rxdLine

/-- `SetLine(RESET, l)` (R373): "on a change 0 to 1: `RST_PEND <- 1`". -/
def State.setReset (s : State) (l : Bool) : State :=
  { s with rstPend := s.rstPend || (!s.resetLine && l), resetLine := l }

/-- `SetLine(NMI, l)` (R375): "on a change 0 to 1: `NMI_PEND <- 1`". -/
def State.setNmi (s : State) (l : Bool) : State := { s with nmiPend := s.nmiPend || (!s.nmiLine && l), nmiLine := l }

/-- `SetLine(IRQ, l)`: the level alone (R375). -/
def State.setIrq (s : State) (l : Bool) : State := { s with irqLine := l }

/-- `SetLine(TIN, l)` (R305). Without the timer the level is held and nothing else happens (R317; DEDUCED, safe,
log 22). -/
def State.setTin (s : State) (l : Bool) : State :=
  if s.cfg.hasTimer then { s with tim := s.tim.setTin l } else { s with tim := { s.tim with tinLine := l } }

/-- `SetLine(RXD, l)`: the level alone. -/
def State.setRxd (s : State) (l : Bool) : State := { s with sci := { s.sci with rxdLine := l } }

/-- `SetLine(line, l)` (R141). -/
def State.setLine (s : State) : Line → Bool → State
  | .reset, l => s.setReset l
  | .nmi, l => s.setNmi l
  | .irq, l => s.setIrq l
  | .tin, l => s.setTin l
  | .rxd, l => s.setRxd l

/-- `Reset()` (R141, R400): the reset sequence at once. -/
def State.hostReset (s : State) : State := s.resetSequence

/-- `SerialClock()` (R341); nothing on a variant without the UART (R362). -/
def State.serialClock (s : State) : State :=
  if s.cfg.hasSci then { s with sci := s.sci.clock s.cfg } else s

/-- The read of `TXD_LINE`: "the level last driven" (R141); without the UART it "is constant 1" (R362). -/
def State.readTxd (s : State) : Bool := !s.cfg.hasSci || s.sci.txdLine

end Sys2Proof.Machine
end

