-- ==== Sys2Proof/Machine/Run.lean ====
section
/-!
DEFINITION. Running under a budget (spec/40_dispatch_fsm.md R137): `Run(n)` grants `n` cycles and steps until the budget is
gone.
-/

namespace Sys2Proof.Machine

/-- The grant of `n` cycles: an overshoot of the run before is "carried in `ICOUNT` as a debt against the next run"
(spec/90_conflicts.md C2, D16; log 11). -/
def State.grant (s : State) (n : Nat) : State := { s with icount := s.icount + n }

/-- `while ICOUNT > 0: Step()`, at most `fuel` steps: `none` if they are not enough. -/
def runLoop : Nat → State → Option (Host.Outcome State Fault Refusal)
  | fuel, s =>
    if s.icount ≤ 0 then some (.next s)
    else
      match fuel with
      | 0 => none
      | fuel + 1 =>
        match step s with
        | .next t => runLoop fuel t
        | .fault e => some (.fault e)
        | .refused r => some (.refused r)

/-- `Run(n)` (R137). Every step but one that takes the reset latch costs a cycle, and no step sets the latch (R140), so one
step more than the budget is enough; `none` never happens. -/
def State.run (s : State) (n : Nat) : Option (Host.Outcome State Fault Refusal) :=
  runLoop ((s.icount + n).toNat + 1) (s.grant n)

/-- What `Run` returns, "cycles actually consumed" (R137), as the growth of `TOTAL`. R137 writes `n - ICOUNT`, which differs
by the debt once C2 and D16 carry one; that the return value counts this run's cycles and not the debt too is the
model's choice. DESIGN CHOICE, unsafe (log 11). -/
def State.consumed (before after : State) : Nat := after.total - before.total

end Sys2Proof.Machine
end

