-- ==== Sys2Proof/Safety.lean ====
section
/-!
DEFINITION. The invariant of the block and what counts as a safe step, in the terms the statements use.
-/

namespace Sys2Proof.Machine

/-- Every armed flag is set (R36, R294 to R296): "a bit that is 1 means ... a status read has seen the flag set since the
flag was last raised". Bits 4:0 of `TPEND` are zero. -/
def Timer.Inv (t : Timer) : Prop := t.tpend &&& (t.tcsr &&& tcsrFlags) = t.tpend

/-- What holds of the UART between steps (R43, R333, R340, R342, R345). -/
structure Sci.Inv (c : Config) (u : Sci) : Prop where
  /-- `SDIV` is "0 .. divisor-1" (R43). -/
  sdiv_lt : u.sdiv < u.divisor c
  /-- The wake-up count stops at the tenth high sample, which clears it (R345, R347). -/
  wucnt_lt : u.wucnt < 10
  /-- A transmitter that is off is not in a frame (R333). -/
  tx_off : u.te = false → u.txst = .idle
  /-- "The line idles high" (R330). -/
  tx_idle : u.txst = .idle → u.txdLine = true
  /-- A receiver that is off is not in a frame (R333). -/
  rx_off : u.re = false → u.rxst = .idle

/-- The invariant that every step and every host operation keeps. -/
structure State.Inv (s : State) : Prop where
  /-- The configuration can be constructed. -/
  cfg_wf : s.cfg.wf = true
  /-- External memory is in its canonical form. -/
  mem_wf : s.mem.wf = true
  /-- The timer's invariant. -/
  tim_inv : s.tim.Inv
  /-- The UART's invariant. -/
  sci_inv : s.sci.Inv s.cfg

/-- A step that neither faults nor is refused. -/
def SafeStep (s : State) : Prop := ∃ t, step s = .next t

/-- The `n` addresses from `a` on, modulo 2^16, are ordinary memory. -/
def PlainRange (c : Config) (a : Word) (n : Nat) : Prop := ∀ k < n, plainAddr c (a + BitVec.ofNat 16 k) = true

/-- None of the `n` addresses from `a` on, modulo 2^16, is a claimed window register. -/
def Unclaimed (c : Config) (a : Word) (n : Nat) : Prop := ∀ k < n, windowReg c (a + BitVec.ofNat 16 k) = none

/-- The seven bytes that an entry pushes, from `SP` down (R376), are ordinary memory. -/
def State.StackReady (s : State) : Prop := PlainRange s.cfg (s.sp - 6#16) 7

end Sys2Proof.Machine
end

