-- ==== Sys2Proof/Shapes.lean ====
section
/-!
DEFINITION. The words the statements use: instructions of one shape as functions of their operands (spec/30_encoding.md
R91), and what each instruction may store to, write and flag (spec/00_scope.md R13).
-/

namespace Sys2Proof.Claims

open Sys2Proof.Machine

/-- ADDA and ADDB (R153, R154). -/
def add : Acc → Src 8 → Instr
  | .A, .imm v => .addaImm v
  | .A, .mem (.dir dd) => .addaDir dd
  | .A, .mem (.idx ff) => .addaIdx ff
  | .A, .mem (.ext hhll) => .addaExt hhll
  | .B, .imm v => .addbImm v
  | .B, .mem (.dir dd) => .addbDir dd
  | .B, .mem (.idx ff) => .addbIdx ff
  | .B, .mem (.ext hhll) => .addbExt hhll

/-- ADCA and ADCB (R155, R156). -/
def adc : Acc → Src 8 → Instr
  | .A, .imm v => .adcaImm v
  | .A, .mem (.dir dd) => .adcaDir dd
  | .A, .mem (.idx ff) => .adcaIdx ff
  | .A, .mem (.ext hhll) => .adcaExt hhll
  | .B, .imm v => .adcbImm v
  | .B, .mem (.dir dd) => .adcbDir dd
  | .B, .mem (.idx ff) => .adcbIdx ff
  | .B, .mem (.ext hhll) => .adcbExt hhll

/-- SUBA and SUBB (R157, R158). -/
def sub : Acc → Src 8 → Instr
  | .A, .imm v => .subaImm v
  | .A, .mem (.dir dd) => .subaDir dd
  | .A, .mem (.idx ff) => .subaIdx ff
  | .A, .mem (.ext hhll) => .subaExt hhll
  | .B, .imm v => .subbImm v
  | .B, .mem (.dir dd) => .subbDir dd
  | .B, .mem (.idx ff) => .subbIdx ff
  | .B, .mem (.ext hhll) => .subbExt hhll

/-- SBCA and SBCB (R159, R160). -/
def sbc : Acc → Src 8 → Instr
  | .A, .imm v => .sbcaImm v
  | .A, .mem (.dir dd) => .sbcaDir dd
  | .A, .mem (.idx ff) => .sbcaIdx ff
  | .A, .mem (.ext hhll) => .sbcaExt hhll
  | .B, .imm v => .sbcbImm v
  | .B, .mem (.dir dd) => .sbcbDir dd
  | .B, .mem (.idx ff) => .sbcbIdx ff
  | .B, .mem (.ext hhll) => .sbcbExt hhll

/-- CMPA and CMPB (R161, R162). -/
def cmp : Acc → Src 8 → Instr
  | .A, .imm v => .cmpaImm v
  | .A, .mem (.dir dd) => .cmpaDir dd
  | .A, .mem (.idx ff) => .cmpaIdx ff
  | .A, .mem (.ext hhll) => .cmpaExt hhll
  | .B, .imm v => .cmpbImm v
  | .B, .mem (.dir dd) => .cmpbDir dd
  | .B, .mem (.idx ff) => .cmpbIdx ff
  | .B, .mem (.ext hhll) => .cmpbExt hhll

/-- LDAA and LDAB (R211, R212). -/
def lda : Acc → Src 8 → Instr
  | .A, .imm v => .ldaaImm v
  | .A, .mem (.dir dd) => .ldaaDir dd
  | .A, .mem (.idx ff) => .ldaaIdx ff
  | .A, .mem (.ext hhll) => .ldaaExt hhll
  | .B, .imm v => .ldabImm v
  | .B, .mem (.dir dd) => .ldabDir dd
  | .B, .mem (.idx ff) => .ldabIdx ff
  | .B, .mem (.ext hhll) => .ldabExt hhll

/-- ADDD (R163). -/
def addD : Src 16 → Instr
  | .imm v => .adddImm v
  | .mem (.dir dd) => .adddDir dd
  | .mem (.idx ff) => .adddIdx ff
  | .mem (.ext hhll) => .adddExt hhll

/-- SUBD (R164). -/
def subD : Src 16 → Instr
  | .imm v => .subdImm v
  | .mem (.dir dd) => .subdDir dd
  | .mem (.idx ff) => .subdIdx ff
  | .mem (.ext hhll) => .subdExt hhll

/-- LDD (R215). -/
def ldd : Src 16 → Instr
  | .imm v => .lddImm v
  | .mem (.dir dd) => .lddDir dd
  | .mem (.idx ff) => .lddIdx ff
  | .mem (.ext hhll) => .lddExt hhll

/-- LDX (R217). -/
def ldx : Src 16 → Instr
  | .imm v => .ldxImm v
  | .mem (.dir dd) => .ldxDir dd
  | .mem (.idx ff) => .ldxIdx ff
  | .mem (.ext hhll) => .ldxExt hhll

/-- LDS (R219). -/
def lds : Src 16 → Instr
  | .imm v => .ldsImm v
  | .mem (.dir dd) => .ldsDir dd
  | .mem (.idx ff) => .ldsIdx ff
  | .mem (.ext hhll) => .ldsExt hhll

/-- STAA and STAB (R213, R214). -/
def sta : Acc → Mem → Instr
  | .A, .dir dd => .staaDir dd
  | .A, .idx ff => .staaIdx ff
  | .A, .ext hhll => .staaExt hhll
  | .B, .dir dd => .stabDir dd
  | .B, .idx ff => .stabIdx ff
  | .B, .ext hhll => .stabExt hhll

/-- STD (R216). -/
def std : Mem → Instr
  | .dir dd => .stdDir dd
  | .idx ff => .stdIdx ff
  | .ext hhll => .stdExt hhll

/-- STX (R218). -/
def stx : Mem → Instr
  | .dir dd => .stxDir dd
  | .idx ff => .stxIdx ff
  | .ext hhll => .stxExt hhll

/-- JSR (R248). -/
def jsr : Mem → Instr
  | .dir dd => .jsrDir dd
  | .idx ff => .jsrIdx ff
  | .ext hhll => .jsrExt hhll

/-- JMP (R247), which has no direct form. -/
def jmp : Mem → Option Instr
  | .dir _ => none
  | .idx ff => some (.jmpIdx ff)
  | .ext hhll => some (.jmpExt hhll)

/-- The shifts and rotates of an accumulator (R181 to R194). -/
def shiftAcc : ShiftKind → Acc → Instr
  | .asl, .A => .asla
  | .asl, .B => .aslb
  | .asr, .A => .asra
  | .asr, .B => .asrb
  | .lsr, .A => .lsra
  | .lsr, .B => .lsrb
  | .rol, .A => .rola
  | .rol, .B => .rolb
  | .ror, .A => .rora
  | .ror, .B => .rorb

/-- The shifts and rotates of a memory byte, which have no direct form (R183, R186, R189, R192, R195). -/
def shiftMem : ShiftKind → Mem → Option Instr
  | _, .dir _ => none
  | .asl, .idx ff => some (.aslIdx ff)
  | .asl, .ext hhll => some (.aslExt hhll)
  | .asr, .idx ff => some (.asrIdx ff)
  | .asr, .ext hhll => some (.asrExt hhll)
  | .lsr, .idx ff => some (.lsrIdx ff)
  | .lsr, .ext hhll => some (.lsrExt hhll)
  | .rol, .idx ff => some (.rolIdx ff)
  | .rol, .ext hhll => some (.rolExt hhll)
  | .ror, .idx ff => some (.rorIdx ff)
  | .ror, .ext hhll => some (.rorExt hhll)

/-- The four mask operations (R201 to R204). -/
inductive MaskOp where
  | aim
  | oim
  | eim
  | tim
deriving DecidableEq, Repr

/-- The byte that a mask operation computes from the byte of memory and the mask (R201 to R204). -/
def MaskOp.apply : MaskOp → Byte → Byte → Byte
  | .aim, m, ii => m &&& ii
  | .oim, m, ii => m ||| ii
  | .eim, m, ii => m ^^^ ii
  | .tim, m, ii => m &&& ii

/-- AIM, OIM, EIM and TIM, which have no extended form (R200). -/
def maskMem : MaskOp → Byte → Mem → Option Instr
  | _, _, .ext _ => none
  | .aim, ii, .dir dd => some (.aimDir ii dd)
  | .aim, ii, .idx ff => some (.aimIdx ii ff)
  | .oim, ii, .dir dd => some (.oimDir ii dd)
  | .oim, ii, .idx ff => some (.oimIdx ii ff)
  | .eim, ii, .dir dd => some (.eimDir ii dd)
  | .eim, ii, .idx ff => some (.eimIdx ii ff)
  | .tim, ii, .dir dd => some (.timDir ii dd)
  | .tim, ii, .idx ff => some (.timIdx ii ff)

/-- The sixteen branches (R231 to R246). -/
def branch : Cond → Byte → Instr
  | .always, rr => .bra rr
  | .never, rr => .brn rr
  | .hi, rr => .bhi rr
  | .ls, rr => .bls rr
  | .cc, rr => .bcc rr
  | .cs, rr => .bcs rr
  | .ne, rr => .bne rr
  | .eq, rr => .beq rr
  | .vc, rr => .bvc rr
  | .vs, rr => .bvs rr
  | .pl, rr => .bpl rr
  | .mi, rr => .bmi rr
  | .ge, rr => .bge rr
  | .lt, rr => .blt rr
  | .gt, rr => .bgt rr
  | .le, rr => .ble rr

/-- The seven addresses of the frame that a trap stores (R376), under the policy `trap`. -/
def trapStores (s : State) : List Word :=
  match s.cfg.illegalPolicy with
  | .nop => []
  | .trap => [s.sp, s.sp - 1#16, s.sp - 2#16, s.sp - 3#16, s.sp - 4#16, s.sp - 5#16, s.sp - 6#16]

/-- The addresses that an instruction stores to when it runs in `s` (spec/41_arithmetic.md to spec/46_system.md), with the
effective address of its own operand; an illegal slot stores its frame under the policy `trap` (R274). -/
def stores (s : State) : Instr → List Word
  | .illegal00 => trapStores s
  | .illegal02 => trapStores s
  | .illegal03 => trapStores s
  | .aimIdx _ ff => [Mem.ea (.idx ff) s]
  | .oimIdx _ ff => [Mem.ea (.idx ff) s]
  | .lsrIdx ff => [Mem.ea (.idx ff) s]
  | .eimIdx _ ff => [Mem.ea (.idx ff) s]
  | .rorIdx ff => [Mem.ea (.idx ff) s]
  | .asrIdx ff => [Mem.ea (.idx ff) s]
  | .aslIdx ff => [Mem.ea (.idx ff) s]
  | .rolIdx ff => [Mem.ea (.idx ff) s]
  | .aimDir _ dd => [Mem.ea (.dir dd) s]
  | .oimDir _ dd => [Mem.ea (.dir dd) s]
  | .lsrExt hhll => [Mem.ea (.ext hhll) s]
  | .eimDir _ dd => [Mem.ea (.dir dd) s]
  | .rorExt hhll => [Mem.ea (.ext hhll) s]
  | .asrExt hhll => [Mem.ea (.ext hhll) s]
  | .aslExt hhll => [Mem.ea (.ext hhll) s]
  | .rolExt hhll => [Mem.ea (.ext hhll) s]
  | .bsr _ => [s.sp, s.sp - 1#16]
  | .staaDir dd => [Mem.ea (.dir dd) s]
  | .jsrDir _ => [s.sp, s.sp - 1#16]
  | .staaIdx ff => [Mem.ea (.idx ff) s]
  | .jsrIdx _ => [s.sp, s.sp - 1#16]
  | .staaExt hhll => [Mem.ea (.ext hhll) s]
  | .jsrExt _ => [s.sp, s.sp - 1#16]
  | .stabDir dd => [Mem.ea (.dir dd) s]
  | .stdDir dd => [Mem.ea (.dir dd) s, Mem.ea (.dir dd) s + 1#16]
  | .stxDir dd => [Mem.ea (.dir dd) s, Mem.ea (.dir dd) s + 1#16]
  | .stabIdx ff => [Mem.ea (.idx ff) s]
  | .stdIdx ff => [Mem.ea (.idx ff) s, Mem.ea (.idx ff) s + 1#16]
  | .stxIdx ff => [Mem.ea (.idx ff) s, Mem.ea (.idx ff) s + 1#16]
  | .stabExt hhll => [Mem.ea (.ext hhll) s]
  | .stdExt hhll => [Mem.ea (.ext hhll) s, Mem.ea (.ext hhll) s + 1#16]
  | .stxExt hhll => [Mem.ea (.ext hhll) s, Mem.ea (.ext hhll) s + 1#16]
  | .nop | .lsrd | .asld | .tap | .tpa | .inx | .dex | .clv | .sev | .clc | .sec | .cli | .sei | .daa | .slp |
  .bra .. | .brn .. | .bhi .. | .bls .. | .bcc .. | .bcs .. | .bne .. | .beq .. | .bvc .. | .bvs .. | .bpl .. |
  .bmi .. | .bge .. | .blt .. | .bgt .. | .ble .. | .rts | .rti | .mul | .wai | .lsra | .rora | .asra | .asla |
  .rola | .deca | .inca | .lsrb | .rorb | .asrb | .aslb | .rolb | .decb | .incb | .timIdx .. | .jmpIdx .. |
  .timDir .. | .jmpExt .. | .subaImm .. | .cmpaImm .. | .sbcaImm .. | .subdImm .. | .ldaaImm .. | .adcaImm .. |
  .addaImm .. | .ldsImm .. | .subaDir .. | .cmpaDir .. | .sbcaDir .. | .subdDir .. | .ldaaDir .. |
  .adcaDir .. | .addaDir .. | .ldsDir .. | .subaIdx .. | .cmpaIdx .. | .sbcaIdx .. | .subdIdx .. |
  .ldaaIdx .. | .adcaIdx .. | .addaIdx .. | .ldsIdx .. | .subaExt .. | .cmpaExt .. | .sbcaExt .. |
  .subdExt .. | .ldaaExt .. | .adcaExt .. | .addaExt .. | .ldsExt .. | .subbImm .. | .cmpbImm .. |
  .sbcbImm .. | .adddImm .. | .ldabImm .. | .adcbImm .. | .addbImm .. | .lddImm .. | .ldxImm .. | .subbDir .. |
  .cmpbDir .. | .sbcbDir .. | .adddDir .. | .ldabDir .. | .adcbDir .. | .addbDir .. | .lddDir .. | .ldxDir .. |
  .subbIdx .. | .cmpbIdx .. | .sbcbIdx .. | .adddIdx .. | .ldabIdx .. | .adcbIdx .. | .addbIdx .. |
  .lddIdx .. | .ldxIdx .. | .subbExt .. | .cmpbExt .. | .sbcbExt .. | .adddExt .. | .ldabExt .. | .adcbExt .. |
  .addbExt .. | .lddExt .. | .ldxExt ..
    => []

/-- The registers an instruction may change. `pc` says whether it is a transfer of control: `PC` is already past the
instruction when its meaning runs (R25). -/
structure Regs where
  a : Bool
  b : Bool
  x : Bool
  sp : Bool
  mode : Bool
  pc : Bool
deriving DecidableEq, Repr

/-- The registers each instruction writes (R153 to R273): its destination, the stack pointer of a call, a return or a
trap, `MODE` for WAI and SLP, and `PC` for a branch that may be taken, a jump, a call, a return and a trap. -/
def writesRegs : Instr → Regs
  | .illegal00 | .illegal02 | .illegal03 | .rts | .bsr .. | .jsrDir .. | .jsrIdx .. | .jsrExt ..
    => ⟨false, false, false, true, false, true⟩
  | .ldsImm .. | .ldsDir .. | .ldsIdx .. | .ldsExt ..
    => ⟨false, false, false, true, false, false⟩
  | .lsrd | .asld | .mul | .subdImm .. | .subdDir .. | .subdIdx .. | .subdExt .. | .adddImm .. | .lddImm .. |
  .adddDir .. | .lddDir .. | .adddIdx .. | .lddIdx .. | .adddExt .. | .lddExt ..
    => ⟨true, true, false, false, false, false⟩
  | .tpa | .daa | .lsra | .rora | .asra | .asla | .rola | .deca | .inca | .subaImm .. | .sbcaImm .. | .ldaaImm .. |
  .adcaImm .. | .addaImm .. | .subaDir .. | .sbcaDir .. | .ldaaDir .. | .adcaDir .. | .addaDir .. | .subaIdx .. |
  .sbcaIdx .. | .ldaaIdx .. | .adcaIdx .. | .addaIdx .. | .subaExt .. | .sbcaExt .. | .ldaaExt .. | .adcaExt .. |
  .addaExt ..
    => ⟨true, false, false, false, false, false⟩
  | .inx | .dex | .ldxImm .. | .ldxDir .. | .ldxIdx .. | .ldxExt ..
    => ⟨false, false, true, false, false, false⟩
  | .slp | .wai
    => ⟨false, false, false, false, true, false⟩
  | .rti
    => ⟨true, true, true, true, false, true⟩
  | .lsrb | .rorb | .asrb | .aslb | .rolb | .decb | .incb | .subbImm .. | .sbcbImm .. | .ldabImm .. | .adcbImm .. |
  .addbImm .. | .subbDir .. | .sbcbDir .. | .ldabDir .. | .adcbDir .. | .addbDir .. | .subbIdx .. | .sbcbIdx .. |
  .ldabIdx .. | .adcbIdx .. | .addbIdx .. | .subbExt .. | .sbcbExt .. | .ldabExt .. | .adcbExt .. | .addbExt ..
    => ⟨false, true, false, false, false, false⟩
  | .bra .. | .bhi .. | .bls .. | .bcc .. | .bcs .. | .bne .. | .beq .. | .bvc .. | .bvs .. | .bpl .. | .bmi .. |
  .bge .. | .blt .. | .bgt .. | .ble .. | .jmpIdx .. | .jmpExt ..
    => ⟨false, false, false, false, false, true⟩
  | .nop | .tap | .clv | .sev | .clc | .sec | .cli | .sei | .brn .. | .aimIdx .. | .oimIdx .. | .lsrIdx .. |
  .eimIdx .. | .rorIdx .. | .asrIdx .. | .aslIdx .. | .rolIdx .. | .timIdx .. | .aimDir .. | .oimDir .. | .lsrExt .. |
  .eimDir .. | .rorExt .. | .asrExt .. | .aslExt .. | .rolExt .. | .timDir .. | .cmpaImm .. | .cmpaDir .. |
  .staaDir .. | .cmpaIdx .. | .staaIdx .. | .cmpaExt .. | .staaExt .. | .cmpbImm .. | .cmpbDir .. | .stabDir .. |
  .stdDir .. | .stxDir .. | .cmpbIdx .. | .stabIdx .. | .stdIdx .. | .stxIdx .. | .cmpbExt .. | .stabExt .. |
  .stdExt .. | .stxExt ..
    => ⟨false, false, false, false, false, false⟩

/-- The flags an instruction may change. -/
structure Flags where
  h : Bool
  i : Bool
  n : Bool
  z : Bool
  v : Bool
  c : Bool
deriving DecidableEq, Repr

/-- The flags that the rule of each instruction lists as written (R153 to R273; the table of R26). A trap sets `I` (R376). -/
def writesFlags : Instr → Flags
  | .illegal00 | .illegal02 | .illegal03 | .cli | .sei
    => ⟨false, true, false, false, false, false⟩
  | .lsrd | .asld | .daa | .lsra | .rora | .asra | .asla | .rola | .lsrb | .rorb | .asrb | .aslb | .rolb |
  .lsrIdx .. | .rorIdx .. | .asrIdx .. | .aslIdx .. | .rolIdx .. | .lsrExt .. | .rorExt .. | .asrExt .. |
  .aslExt .. | .rolExt .. | .subaImm .. | .cmpaImm .. | .sbcaImm .. | .subdImm .. | .subaDir .. | .cmpaDir .. |
  .sbcaDir .. | .subdDir .. | .subaIdx .. | .cmpaIdx .. | .sbcaIdx .. | .subdIdx .. | .subaExt .. |
  .cmpaExt .. | .sbcaExt .. | .subdExt .. | .subbImm .. | .cmpbImm .. | .sbcbImm .. | .adddImm .. |
  .subbDir .. | .cmpbDir .. | .sbcbDir .. | .adddDir .. | .subbIdx .. | .cmpbIdx .. | .sbcbIdx .. |
  .adddIdx .. | .subbExt .. | .cmpbExt .. | .sbcbExt .. | .adddExt ..
    => ⟨false, false, true, true, true, true⟩
  | .tap | .rti
    => ⟨true, true, true, true, true, true⟩
  | .inx | .dex
    => ⟨false, false, false, true, false, false⟩
  | .clv | .sev
    => ⟨false, false, false, false, true, false⟩
  | .clc | .sec | .mul
    => ⟨false, false, false, false, false, true⟩
  | .deca | .inca | .decb | .incb | .aimIdx .. | .oimIdx .. | .eimIdx .. | .timIdx .. | .aimDir .. |
  .oimDir .. | .eimDir .. | .timDir .. | .ldaaImm .. | .ldsImm .. | .ldaaDir .. | .staaDir .. | .ldsDir .. |
  .ldaaIdx .. | .staaIdx .. | .ldsIdx .. | .ldaaExt .. | .staaExt .. | .ldsExt .. | .ldabImm .. | .lddImm .. |
  .ldxImm .. | .ldabDir .. | .stabDir .. | .lddDir .. | .stdDir .. | .ldxDir .. | .stxDir .. | .ldabIdx .. |
  .stabIdx .. | .lddIdx .. | .stdIdx .. | .ldxIdx .. | .stxIdx .. | .ldabExt .. | .stabExt .. | .lddExt .. |
  .stdExt .. | .ldxExt .. | .stxExt ..
    => ⟨false, false, true, true, true, false⟩
  | .adcaImm .. | .addaImm .. | .adcaDir .. | .addaDir .. | .adcaIdx .. | .addaIdx .. | .adcaExt .. |
  .addaExt .. | .adcbImm .. | .addbImm .. | .adcbDir .. | .addbDir .. | .adcbIdx .. | .addbIdx .. |
  .adcbExt .. | .addbExt ..
    => ⟨true, false, true, true, true, true⟩
  | .nop | .tpa | .slp | .bra .. | .brn .. | .bhi .. | .bls .. | .bcc .. | .bcs .. | .bne .. | .beq .. |
  .bvc .. | .bvs .. | .bpl .. | .bmi .. | .bge .. | .blt .. | .bgt .. | .ble .. | .rts | .wai | .jmpIdx .. |
  .jmpExt .. | .bsr .. | .jsrDir .. | .jsrIdx .. | .jsrExt ..
    => ⟨false, false, false, false, false, false⟩

/-- Opcode byte, length and declared cycles of an instruction (a row of R97). -/
def RowIs (i : Instr) (opcode : Byte) (length cycles : Nat) : Prop :=
  i.opcode = opcode ∧ i.length = length ∧ i.cycles = cycles

/-- The flags after an operation on `w` bits that writes `N`, `Z`, `V`, `C`: `N` and `Z` from the result. -/
def nzvc {w : Nat} (f : CC) (r : BitVec w) (v c : Bool) : CC := { f with n := r.msb, z := decide (r.toNat = 0), v := v, c := c }

/-- Whether a signed number does not fit in `w` bits of two's complement. -/
def overflows (w : Nat) (x : Int) : Bool := decide (x < -(2 ^ (w - 1)) ∨ 2 ^ (w - 1) ≤ x)

/-- The addresses that a trap reads: its vector (R376). -/
def trapReads (s : State) : List Word :=
  match s.cfg.illegalPolicy with
  | .nop => []
  | .trap => [s.cfg.vecTrap, s.cfg.vecTrap + 1#16]

/-- The addresses, other than its own bytes, that an instruction reads when it runs in `s` (spec/41_arithmetic.md to
spec/46_system.md). -/
def reads (s : State) : Instr → List Word
  | .illegal00 => trapReads s
  | .illegal02 => trapReads s
  | .illegal03 => trapReads s
  | .rts => [s.sp + 1#16, s.sp + 2#16]
  | .rti => [s.sp + 1#16, s.sp + 2#16, s.sp + 3#16, s.sp + 4#16, s.sp + 5#16, s.sp + 6#16, s.sp + 7#16]
  | .aimIdx _ ff => [Mem.ea (.idx ff) s]
  | .oimIdx _ ff => [Mem.ea (.idx ff) s]
  | .lsrIdx ff => [Mem.ea (.idx ff) s]
  | .eimIdx _ ff => [Mem.ea (.idx ff) s]
  | .rorIdx ff => [Mem.ea (.idx ff) s]
  | .asrIdx ff => [Mem.ea (.idx ff) s]
  | .aslIdx ff => [Mem.ea (.idx ff) s]
  | .rolIdx ff => [Mem.ea (.idx ff) s]
  | .timIdx _ ff => [Mem.ea (.idx ff) s]
  | .aimDir _ dd => [Mem.ea (.dir dd) s]
  | .oimDir _ dd => [Mem.ea (.dir dd) s]
  | .lsrExt hhll => [Mem.ea (.ext hhll) s]
  | .eimDir _ dd => [Mem.ea (.dir dd) s]
  | .rorExt hhll => [Mem.ea (.ext hhll) s]
  | .asrExt hhll => [Mem.ea (.ext hhll) s]
  | .aslExt hhll => [Mem.ea (.ext hhll) s]
  | .rolExt hhll => [Mem.ea (.ext hhll) s]
  | .timDir _ dd => [Mem.ea (.dir dd) s]
  | .subaDir dd => [Mem.ea (.dir dd) s]
  | .cmpaDir dd => [Mem.ea (.dir dd) s]
  | .sbcaDir dd => [Mem.ea (.dir dd) s]
  | .subdDir dd => [Mem.ea (.dir dd) s, Mem.ea (.dir dd) s + 1#16]
  | .ldaaDir dd => [Mem.ea (.dir dd) s]
  | .adcaDir dd => [Mem.ea (.dir dd) s]
  | .addaDir dd => [Mem.ea (.dir dd) s]
  | .ldsDir dd => [Mem.ea (.dir dd) s, Mem.ea (.dir dd) s + 1#16]
  | .subaIdx ff => [Mem.ea (.idx ff) s]
  | .cmpaIdx ff => [Mem.ea (.idx ff) s]
  | .sbcaIdx ff => [Mem.ea (.idx ff) s]
  | .subdIdx ff => [Mem.ea (.idx ff) s, Mem.ea (.idx ff) s + 1#16]
  | .ldaaIdx ff => [Mem.ea (.idx ff) s]
  | .adcaIdx ff => [Mem.ea (.idx ff) s]
  | .addaIdx ff => [Mem.ea (.idx ff) s]
  | .ldsIdx ff => [Mem.ea (.idx ff) s, Mem.ea (.idx ff) s + 1#16]
  | .subaExt hhll => [Mem.ea (.ext hhll) s]
  | .cmpaExt hhll => [Mem.ea (.ext hhll) s]
  | .sbcaExt hhll => [Mem.ea (.ext hhll) s]
  | .subdExt hhll => [Mem.ea (.ext hhll) s, Mem.ea (.ext hhll) s + 1#16]
  | .ldaaExt hhll => [Mem.ea (.ext hhll) s]
  | .adcaExt hhll => [Mem.ea (.ext hhll) s]
  | .addaExt hhll => [Mem.ea (.ext hhll) s]
  | .ldsExt hhll => [Mem.ea (.ext hhll) s, Mem.ea (.ext hhll) s + 1#16]
  | .subbDir dd => [Mem.ea (.dir dd) s]
  | .cmpbDir dd => [Mem.ea (.dir dd) s]
  | .sbcbDir dd => [Mem.ea (.dir dd) s]
  | .adddDir dd => [Mem.ea (.dir dd) s, Mem.ea (.dir dd) s + 1#16]
  | .ldabDir dd => [Mem.ea (.dir dd) s]
  | .adcbDir dd => [Mem.ea (.dir dd) s]
  | .addbDir dd => [Mem.ea (.dir dd) s]
  | .lddDir dd => [Mem.ea (.dir dd) s, Mem.ea (.dir dd) s + 1#16]
  | .ldxDir dd => [Mem.ea (.dir dd) s, Mem.ea (.dir dd) s + 1#16]
  | .subbIdx ff => [Mem.ea (.idx ff) s]
  | .cmpbIdx ff => [Mem.ea (.idx ff) s]
  | .sbcbIdx ff => [Mem.ea (.idx ff) s]
  | .adddIdx ff => [Mem.ea (.idx ff) s, Mem.ea (.idx ff) s + 1#16]
  | .ldabIdx ff => [Mem.ea (.idx ff) s]
  | .adcbIdx ff => [Mem.ea (.idx ff) s]
  | .addbIdx ff => [Mem.ea (.idx ff) s]
  | .lddIdx ff => [Mem.ea (.idx ff) s, Mem.ea (.idx ff) s + 1#16]
  | .ldxIdx ff => [Mem.ea (.idx ff) s, Mem.ea (.idx ff) s + 1#16]
  | .subbExt hhll => [Mem.ea (.ext hhll) s]
  | .cmpbExt hhll => [Mem.ea (.ext hhll) s]
  | .sbcbExt hhll => [Mem.ea (.ext hhll) s]
  | .adddExt hhll => [Mem.ea (.ext hhll) s, Mem.ea (.ext hhll) s + 1#16]
  | .ldabExt hhll => [Mem.ea (.ext hhll) s]
  | .adcbExt hhll => [Mem.ea (.ext hhll) s]
  | .addbExt hhll => [Mem.ea (.ext hhll) s]
  | .lddExt hhll => [Mem.ea (.ext hhll) s, Mem.ea (.ext hhll) s + 1#16]
  | .ldxExt hhll => [Mem.ea (.ext hhll) s, Mem.ea (.ext hhll) s + 1#16]
  | .nop | .lsrd | .asld | .tap | .tpa | .inx | .dex | .clv | .sev | .clc | .sec | .cli | .sei | .daa | .slp |
  .bra .. | .brn .. | .bhi .. | .bls .. | .bcc .. | .bcs .. | .bne .. | .beq .. | .bvc .. | .bvs .. | .bpl .. |
  .bmi .. | .bge .. | .blt .. | .bgt .. | .ble .. | .mul | .wai | .lsra | .rora | .asra | .asla | .rola |
  .deca | .inca | .lsrb | .rorb | .asrb | .aslb | .rolb | .decb | .incb | .jmpIdx .. | .jmpExt .. |
  .subaImm .. | .cmpaImm .. | .sbcaImm .. | .subdImm .. | .ldaaImm .. | .adcaImm .. | .addaImm .. | .bsr .. |
  .ldsImm .. | .staaDir .. | .jsrDir .. | .staaIdx .. | .jsrIdx .. | .staaExt .. | .jsrExt .. | .subbImm .. |
  .cmpbImm .. | .sbcbImm .. | .adddImm .. | .ldabImm .. | .adcbImm .. | .addbImm .. | .lddImm .. | .ldxImm .. |
  .stabDir .. | .stdDir .. | .stxDir .. | .stabIdx .. | .stdIdx .. | .stxIdx .. | .stabExt .. | .stdExt .. |
  .stxExt ..
    => []

/-- The rows of an 8-bit operand instruction of both accumulators: immediate, direct, indexed, extended (R153 to R162,
R211, R212). -/
def AccRows (f : Acc → Src 8 → Instr) (opA opB : Byte) : Prop :=
  ∀ (v dd ff : Byte) (hhll : Word),
    (RowIs (f .A (.imm v)) opA 2 2 ∧ RowIs (f .A (.mem (.dir dd))) (opA + 0x10#8) 2 3 ∧
      RowIs (f .A (.mem (.idx ff))) (opA + 0x20#8) 2 4 ∧ RowIs (f .A (.mem (.ext hhll))) (opA + 0x30#8) 3 4) ∧
    (RowIs (f .B (.imm v)) opB 2 2 ∧ RowIs (f .B (.mem (.dir dd))) (opB + 0x10#8) 2 3 ∧
      RowIs (f .B (.mem (.idx ff))) (opB + 0x20#8) 2 4 ∧ RowIs (f .B (.mem (.ext hhll))) (opB + 0x30#8) 3 4)

/-- The rows of a 16-bit operand instruction (R163, R164, R215, R217, R219). -/
def WordRows (f : Src 16 → Instr) (op : Byte) : Prop :=
  ∀ (v : Word) (dd ff : Byte) (hhll : Word),
    RowIs (f (.imm v)) op 3 3 ∧ RowIs (f (.mem (.dir dd))) (op + 0x10#8) 2 4 ∧
      RowIs (f (.mem (.idx ff))) (op + 0x20#8) 2 5 ∧ RowIs (f (.mem (.ext hhll))) (op + 0x30#8) 3 5

/-- The rows of a store, with the cycles of its three forms (R213, R214, R216, R218, R248). -/
def StoreRows (f : Mem → Instr) (op : Byte) (cd ci ce : Nat) : Prop :=
  ∀ (dd ff : Byte) (hhll : Word),
    RowIs (f (.dir dd)) op 2 cd ∧ RowIs (f (.idx ff)) (op + 0x10#8) 2 ci ∧ RowIs (f (.ext hhll)) (op + 0x20#8) 3 ce

/-- `N` and `Z` of a value, `V` cleared (R200, R210). -/
def logicFlags {w : Nat} (f : CC) (r : BitVec w) : CC := { f with n := r.msb, z := decide (r.toNat = 0), v := false }

/-- Writes a list of bytes at `a`, `a - 1`, `a - 2`, ... in this order, as the pushes of R27 do. -/
def writeDown (s : State) (a : Word) : List Byte → State
  | [] => s
  | b :: bs => writeDown (s.write8 a b) (a - 1#16) bs

/-- Reads the bytes at `a`, `a + 1`, ... in this order, as the pulls of R27 do, with the state after the reads. -/
def readUp (s : State) (a : Word) : Nat → List Byte × State
  | 0 => ([], s)
  | n + 1 =>
    let r := s.read8 a
    let q := readUp r.2 (a + 1#16) n
    (r.1 :: q.1, q.2)

/-- The seven bytes of a frame, in the order in which an entry pushes them (R376). -/
def frame (s : State) : List Byte := [loByte s.pc, hiByte s.pc, loByte s.x, hiByte s.x, s.a, s.b, s.cc.toByte]

/-- The state that an entry through `vec` leads to (R376): the frame pushed, `I` set, `PC` from the vector. -/
def entered (s : State) (vec : Word) : State :=
  let r := (writeDown s s.sp (frame s)).read16 vec
  { r.2 with sp := s.sp - 7#16, cc := { s.cc with i := true }, pc := r.1 }

/-- The bit that a shift or rotate puts at place `i` of its result, of `w` bits (R180). -/
def shiftBit (k : ShiftKind) (w : Nat) (v : BitVec w) (cin : Bool) (i : Nat) : Bool :=
  match k with
  | .asl => if i = 0 then false else v.getLsbD (i - 1)
  | .rol => if i = 0 then cin else v.getLsbD (i - 1)
  | .asr => if i = w - 1 then v.getLsbD i else v.getLsbD (i + 1)
  | .lsr => if i = w - 1 then false else v.getLsbD (i + 1)
  | .ror => if i = w - 1 then cin else v.getLsbD (i + 1)

/-- The bit that a shift or rotate puts into `C` (R180). -/
def shiftCarry (k : ShiftKind) (w : Nat) (v : BitVec w) : Bool :=
  match k with
  | .asl | .rol => v.getLsbD (w - 1)
  | .asr | .lsr | .ror => v.getLsbD 0

/-- A result `r` and flags `f` are those of `Shift(k, v, C, w)` (R180). -/
def IsShift (k : ShiftKind) (w : Nat) (v : BitVec w) (old : CC) (r : BitVec w) (f : CC) : Prop :=
  (∀ i < w, r.getLsbD i = shiftBit k w v old.c i) ∧
    f = nzvc old r (r.msb ^^ shiftCarry k w v) (shiftCarry k w v)

/-- What `ResetSequence()` gives (R50, R400), from `s`. It says nothing of the items that R400 calls unspecified. -/
structure AfterReset (s t : State) : Prop where
  latches : t.rstPend = false ∧ t.nmiPend = false
  mode : t.mode = .run
  mask : t.cc.i = true
  counter : t.tim.cnt = 0x0000#16 ∧ t.tim.ocr = 0xFFFF#16
  timer : t.tim.tcsr = 0x00#8 ∧ t.tim.tpend = 0x00#8 ∧ t.tim.chlatch = 0x00#8
  serial : t.sci.rmcr = 0x0#4 ∧ t.sci.trcsr = 0x20#8 ∧ t.sci.txst = .idle ∧ t.sci.rxst = .idle
  serialHidden : t.sci.wucnt = 0 ∧ t.sci.sdiv = 0 ∧ t.sci.rxprev = true ∧ t.sci.txdLine = true
  lines : t.irqLine = s.irqLine ∧ t.nmiLine = s.nmiLine ∧ t.tim.tinLine = s.tim.tinLine ∧ t.sci.rxdLine = s.sci.rxdLine
  counts : t.icount = s.icount ∧ t.total = s.total
  memory : t.mem = s.mem
  cfg : t.cfg = s.cfg
  /-- `PC <- MemRead(VEC_RESET, 2)`, from the registers just reset; the reads are the only accesses to the environment. -/
  entry : (t.pc, t.devLog) =
    let r := State.read16 { t with devLog := s.devLog } s.cfg.vecReset
    (r.1, r.2.devLog)

/-- The accesses and events of the timer: everything that changes its state (R294 to R300, R305). -/
inductive TimerOp where
  | readTcsr
  | writeTcsr (v : Byte)
  | readCh
  | writeCh (v : Byte)
  | writeCl (v : Byte)
  | readOcrh
  | writeOcrh (v : Byte)
  | writeOcrl (v : Byte)
  | readIcrh
  | advance (n : Nat)
  | setTin (l : Bool)
deriving DecidableEq, Repr

/-- What an access or event does to the timer. -/
def TimerOp.run (t : Timer) : TimerOp → Timer
  | .readTcsr => t.armFlags
  | .writeTcsr v => t.writeTcsr v
  | .readCh => t.clearIfArmed .tof
  | .writeCh v => t.writeCh v
  | .writeCl v => t.writeCl v
  | .readOcrh => t.clearIfArmed .ocf
  | .writeOcrh v => t.writeOcrh v
  | .writeOcrl v => t.writeOcrl v
  | .readIcrh => t.clearIfArmed .icf
  | .advance n => t.advance n
  | .setTin l => t.setTin l

/-- The qualifying accesses of a flag (the table of R296; a read of `CL` acts as one of `OCRH`, R303). -/
def TimerOp.qualifies : TimerOp → TFlag → Bool
  | .readCh, .tof | .readOcrh, .ocf | .writeOcrh _, .ocf | .writeOcrl _, .ocf | .readIcrh, .icf => true
  | _, _ => false

/-- The timer after a list of accesses and events. -/
def runTimer (t : Timer) (l : List TimerOp) : Timer := l.foldl (fun t o => TimerOp.run t o) t

/-- `n` serial ticks (R340). -/
def ticks (c : Config) : Nat → Sci → Sci
  | 0, u => u
  | n + 1, u => ticks c n (u.tick c)

/-- The level of `TXD` after each of `n` ticks. -/
def txdLevels (c : Config) : Nat → Sci → List Bool
  | 0, _ => []
  | n + 1, u => (u.tick c).txdLine :: txdLevels c n (u.tick c)

/-- The receiver's half of successive ticks, one per line level (R345). -/
def receive (u : Sci) : List Bool → Sci
  | [] => u
  | l :: ls => receive ({ u with rxdLine := l }.rxTick) ls

/-- The eight data bits of a frame, the least significant first (R343). -/
def dataBits (v : Byte) : List Bool := (List.range 8).map fun i => v.getLsbD i

/-- Two decimal digits in one byte. -/
def bcd (n : Nat) : Byte := BitVec.ofNat 8 (n / 10 * 16 + n % 10)

/-- `n` steps: the states before the steps all step, and the last is the result. -/
def stepsTo (s : State) : Nat → State → Prop
  | 0, t => t = s
  | n + 1, t => ∃ u, step s = .next u ∧ stepsTo u n t

/-- `u` is `t` after the accounting of `c` cycles (R127): charged, the timer advanced, then the UART. -/
def Charged (t u : State) (c : Nat) : Prop :=
  u = { t with
    icount := t.icount - c
    total := t.total + c
    tim := if t.cfg.hasTimer then t.tim.advance c else t.tim
    sci := if t.cfg.hasSci then t.sci.advance t.cfg c else t.sci }

/-- The place of a source in the order of R372, 0 the highest. -/
def rank : Source → Nat
  | .reset => 0
  | .nmi => 1
  | .irq => 2
  | .icf => 3
  | .ocf => 4
  | .tof => 5
  | .sci => 6

/-- The target of a branch (R95): the signed offset added to the address of the next instruction, modulo 2^16. -/
def target (s : State) (rr : Byte) : Word := BitVec.ofInt 16 (s.pc.toNat + rr.toInt)

/-- A branch on a condition, two bytes and three cycles, that writes nothing but `PC` (R230). -/
def BranchIs (i : Byte → Instr) (opcode : Byte) (cond : CC → Prop) : Prop :=
  ∀ rr s, (cond s.cc → exec (i rr) s = .next { s with pc := target s rr }) ∧
    (¬ cond s.cc → exec (i rr) s = .next s) ∧ RowIs (i rr) opcode 2 3

/-- A branch taken, after CMPA or CMPB, exactly when the accumulator and the operand are in the relation `rel`. -/
def TakenAfterCompare (i : Byte → Instr) (rel : Byte → Byte → Prop) : Prop :=
  ∀ r src rr s t, exec (cmp r src) s = .next t →
    (rel (s.acc r) (s.operand8 src).1 → exec (i rr) t = .next { t with pc := target t rr }) ∧
    (¬ rel (s.acc r) (s.operand8 src).1 → exec (i rr) t = .next t)

/-- The timer with a flag cleared if it is armed (R296). -/
def clearedIfArmed (t : Timer) (f : TFlag) : Timer :=
  if t.tpend.getLsbD f.bit then { t with tcsr := t.tcsr &&& ~~~f.mask, tpend := t.tpend &&& ~~~f.mask } else t

/-- Whether an access or event raises a flag (R300, R305): an advance that counts to the value of the compare register or
to 0xFFFF, and a capture edge. -/
def raisesFlag (t : Timer) (f : TFlag) : TimerOp → Bool
  | .advance n =>
    match f with
    | .icf => false
    | .ocf => decide ((t.ocr - t.cnt - 1#16).toNat < n)
    | .tof => decide ((0xFFFE#16 - t.cnt).toNat < n)
  | .setTin l => decide (f = .icf) && t.captureEdge l
  | _ => false

/-- No access or event of the list raises the flag. -/
def NeverRaised (f : TFlag) : Timer → List TimerOp → Prop
  | _, [] => True
  | t, o :: l => raisesFlag t f o = false ∧ NeverRaised f (TimerOp.run t o) l

/-- The address of a window offset (R65). -/
def windowAddr (s : State) (off : Nat) : Word := s.cfg.ioBase + BitVec.ofNat 16 off

/-- A register of the window at an offset: what a read returns, what a read changes, what a write does (R66). -/
def RegisterIs (s : State) (off : Nat) (value : Byte) (afterRead : State) (afterWrite : Byte → State) : Prop :=
  s.peek (windowAddr s off) = value ∧ s.read8 (windowAddr s off) = (value, afterRead) ∧
    ∀ v, s.write8 (windowAddr s off) v = afterWrite v

/-- An address that the block does not claim: its accesses are `ExtRead` and `ExtWrite` (R62, R317, R362). -/
def GoesToEnvironment (s : State) (addr : Word) : Prop :=
  windowReg s.cfg addr = none ∧ s.read8 addr = (s.extRead addr, s.extReadEffect addr) ∧
    ∀ v, s.write8 addr v = s.extWrite addr v

/-- The UART after a write of `TRCSR` (R333). -/
def trcsrWritten (u : Sci) (v : Byte) : Sci :=
  { u with
    trcsr := (u.trcsr &&& 0xE0#8) ||| (v &&& 0x1F#8)
    txst := if v.getLsbD 1 then u.txst else .idle
    txdLine := if v.getLsbD 1 then u.txdLine else true
    rxst := if v.getLsbD 2 && u.trcsr.getLsbD 2 then u.rxst else .idle
    wucnt := if v.getLsbD 0 && !u.trcsr.getLsbD 0 then 0 else u.wucnt }

end Sys2Proof.Claims
end

