-- ==== Sys2Proof/Certificates/Slice0/Obligations.lean ====
section
/-!
DEFINITION. The statements for the provers, in the words of Sys2Proof/Shapes.lean and Sys2Proof/Safety.lean. Each docstring
says what its statement states; OBLIGATIONS.json names the rules.
-/

section Statements

open Sys2Proof Sys2Proof.Machine Sys2Proof.Claims

/-- For every instruction, with every operand at every value, and every list of bytes after it, decode of encode i
followed by those bytes is i with those bytes left. -/
def Obligations.DecodeEncodeAgree : Prop :=
  ∀ (i : Instr) (rest : List Byte), decode (encode i ++ rest) = .ok (i, rest)

/-- Whenever decode answers an instruction and the bytes left, the bytes given were the encoding of that instruction
followed by the bytes left. -/
def Obligations.DecodeReadsOnlyEncodings : Prop :=
  ∀ (bs : List Byte) (i : Instr) (rest : List Byte), decode bs = .ok (i, rest) → bs = encode i ++ rest

/-- If bytes decode, the length that the opcode byte alone gives is the length of the instruction, is 1, 2 or 3, is the
number of bytes taken, and the opcode byte is that of the instruction; the bytes that a fetch takes are those read
at PC, PC + 1, ... in this order, and PC ends past them. -/
def Obligations.OpcodeByteGivesLength : Prop :=
  (∀ (op : Byte) (bs rest : List Byte) (i : Instr), decode (op :: bs) = .ok (i, rest) →
      lengthOf op = some i.length ∧ i.opcode = op ∧ 1 ≤ i.length ∧ i.length ≤ 3 ∧
        (op :: bs).length = i.length + rest.length) ∧
    ∀ (s t : State) (n : Nat) (bs : List Byte), s.fetchMany n = .ok (bs, t) →
      bs = (readUp s s.pc n).1 ∧ t = (readUp s s.pc n).2.setPc (s.pc + BitVec.ofNat 16 n)

/-- Bytes written out from the table, one of each format and family, decode to the instruction they stand for. -/
def Obligations.WrittenWordsDecode : Prop :=
  decode [0x8B#8, 0x27#8] = .ok (.addaImm 0x27#8, []) ∧ decode [0x96#8, 0x08#8] = .ok (.ldaaDir 0x08#8, []) ∧
    decode [0xA7#8, 0x02#8] = .ok (.staaIdx 0x02#8, []) ∧ decode [0x7E#8, 0xC0#8, 0x00#8] = .ok (.jmpExt 0xC000#16, []) ∧
    decode [0xCE#8, 0x12#8, 0x34#8] = .ok (.ldxImm 0x1234#16, []) ∧ decode [0x26#8, 0xFB#8] = .ok (.bne 0xFB#8, []) ∧
    decode [0x72#8, 0x08#8, 0x40#8] = .ok (.oimDir 0x08#8 0x40#8, []) ∧
    decode [0x6B#8, 0x80#8, 0x01#8] = .ok (.timIdx 0x80#8 0x01#8, []) ∧ decode [0x49#8] = .ok (.rola, []) ∧
    decode [0x3B#8] = .ok (.rti, []) ∧ decode [0x02#8] = .ok (.illegal02, [])

/-- Of the 256 byte values 100 have no row in the reference table and 3 are illegal; a step of a running machine with
the reference table, nothing pending and an unspecified byte at PC is refused with that byte and with the state
after the opcode fetch, PC advanced by one. An instruction that the capability record leaves out is unspecified too,
and BRN and the direct JSR need HAS_EXT_OPS: the model's choice (log 12). -/
def Obligations.UnspecifiedSlotsAreRefused : Prop :=
  ((List.range 256).filter fun n => (rowOf (BitVec.ofNat 8 n)).isNone).length = 100 ∧
    ((List.range 256).filter fun n => (rowOf (BitVec.ofNat 8 n)).any fun r => r.slot.isIllegal) = [0, 2, 3] ∧
    (∀ s : State, s.cfg.wf = true → s.cfg.table = [] → s.poll = none → s.mode = .run → windowReg s.cfg s.pc = none →
      rowOf (s.peek s.pc) = none →
      step s = .refused (.unspecifiedSlot (s.peek s.pc) ((s.readEffect s.pc).setPc (s.pc + 1#16)))) ∧
    (∀ (c : Config) (i : Instr), c.table = [] → i.wf c = false → entryOf c i.opcode = .unspecified) ∧
    (∀ dd, (jsr (.dir dd)).needs = .ext) ∧ ∀ rr, (Instr.brn rr).needs = .ext

/-- With the reference table, nothing to take, MODE = RUN and no claimed register at the instruction, if the bytes read
at PC decode to i and exec i, from the state after these reads with PC past the instruction, answers t, then the
step answers t charged with the slot's cost: the declared cycles, or C_ILLEGAL or C_TRAP for an illegal slot. -/
def Obligations.StepRunsDecodedInstruction : Prop :=
  ∀ (s t : State) (i : Instr), s.cfg.wf = true → s.cfg.table = [] → i.wf s.cfg = true → s.poll = none → s.mode = .run →
    Unclaimed s.cfg s.pc i.length → decode (readUp s s.pc i.length).1 = .ok (i, []) →
    exec i ((readUp s s.pc i.length).2.setPc (s.pc + BitVec.ofNat 16 i.length)) = .next t →
    ∃ u, step s = .next u ∧
      ((rowOf i.opcode).any (fun r => r.slot.isIllegal) = false → Charged t u i.cycles) ∧
      ((rowOf i.opcode).any (fun r => r.slot.isIllegal) = true → s.cfg.illegalPolicy = .nop → Charged t u s.cfg.cIllegal) ∧
      ((rowOf i.opcode).any (fun r => r.slot.isIllegal) = true → s.cfg.illegalPolicy = .trap → Charged t u s.cfg.cTrap)

/-- For the table's entry of the opcode byte at PC: an op entry runs its operation on the operand bytes and charges the
entry's cycles; an illegal entry charges its cycles under nop and enters the trap for C_TRAP under trap; an
unspecified entry is refused. The bytes are those read at PC and after it, outside the window. -/
def Obligations.StepFollowsDispatchTable : Prop :=
  ∀ s : State, s.cfg.wf = true → s.poll = none → s.mode = .run → windowReg s.cfg s.pc = none →
    (∀ slot n i t, entryOf s.cfg (s.peek s.pc) = .op slot n → Unclaimed s.cfg s.pc i.length →
      decode (slot :: (readUp s s.pc i.length).1.tail) = .ok (i, []) →
      exec i ((readUp s s.pc i.length).2.setPc (s.pc + BitVec.ofNat 16 i.length)) = .next t →
      ∃ u, step s = .next u ∧ Charged t u n) ∧
    (∀ n, entryOf s.cfg (s.peek s.pc) = .illegal n →
      ∃ u, step s = .next u ∧
        (s.cfg.illegalPolicy = .nop → Charged ((s.readEffect s.pc).setPc (s.pc + 1#16)) u n) ∧
        (s.cfg.illegalPolicy = .trap →
          Charged (entered ((s.readEffect s.pc).setPc (s.pc + 1#16)) s.cfg.vecTrap) u s.cfg.cTrap)) ∧
    (entryOf s.cfg (s.peek s.pc) = .unspecified →
      step s = .refused (.unspecifiedSlot (s.peek s.pc) ((s.readEffect s.pc).setPc (s.pc + 1#16))))

/-- If PC points at a claimed register the fetch is refused with that address; if the opcode byte is fetched and an
operand byte of its slot, the first such, lies at a claimed register, the fetch is refused with that address; at any
other address Fetch8 is an ordinary ExtRead and moves PC. -/
def Obligations.WindowFetchIsRefused : Prop :=
  ∀ s : State,
    ((windowReg s.cfg s.pc).isSome = true → s.fetch = .error (.fetchFromWindow s.pc)) ∧
    (∀ k, 1 ≤ k → k < slotLength s.cfg (s.extRead s.pc) →
      (∀ j < k, windowReg s.cfg (s.pc + BitVec.ofNat 16 j) = none) →
      (windowReg s.cfg (s.pc + BitVec.ofNat 16 k)).isSome = true →
      s.fetch = .error (.fetchFromWindow (s.pc + BitVec.ofNat 16 k))) ∧
    (windowReg s.cfg s.pc = none → s.fetch8 = .ok (s.extRead s.pc, (s.extReadEffect s.pc).setPc (s.pc + 1#16))) ∧
    (s.cfg.wf = true → s.poll = none → s.mode = .run → ∀ e, s.fetch = .error e → step s = .refused e)

/-- Each request condition is the stated function of latches, lines, flags and enables; the poll returns a source
exactly when it requests and no source before it in the order RESET, NMI, IRQ, ICF, OCF, TOF, SCI does, and nothing
exactly when none requests. -/
def Obligations.PollFollowsPriority : Prop :=
  ∀ s : State,
    s.requests .reset = s.rstPend ∧ s.requests .nmi = s.nmiPend ∧ s.requests .irq = (!s.cc.i && s.irqLine) ∧
    s.requests .icf = (!s.cc.i && s.cfg.hasTimer && s.tim.tcsr.getLsbD 7 && s.tim.tcsr.getLsbD 4) ∧
    s.requests .ocf = (!s.cc.i && s.cfg.hasTimer && s.tim.tcsr.getLsbD 6 && s.tim.tcsr.getLsbD 3) ∧
    s.requests .tof = (!s.cc.i && s.cfg.hasTimer && s.tim.tcsr.getLsbD 5 && s.tim.tcsr.getLsbD 2) ∧
    s.requests .sci = (!s.cc.i && s.cfg.hasSci &&
      ((s.sci.trcsr.getLsbD 4 && (s.sci.trcsr.getLsbD 7 || s.sci.trcsr.getLsbD 6)) ||
        (s.sci.trcsr.getLsbD 3 && s.sci.trcsr.getLsbD 5))) ∧
    (∀ src, s.poll = some src ↔
      s.requests src = true ∧ ∀ other, rank other < rank src → s.requests other = false) ∧
    (s.poll = none ↔ ∀ src, s.requests src = false)

/-- From every state the host's reset, and the step that takes the reset latch, end in a state with the values of the
reset sequence, PC read from the reset vector, and the lines, ICOUNT, TOTAL and external memory as before. -/
def Obligations.ResetSequenceValues : Prop :=
  ∀ s : State, AfterReset s s.hostReset ∧
    (s.cfg.wf = true → s.rstPend = true → ∃ t, step s = .next t ∧ AfterReset s t)

/-- If the poll returns an interrupt source, the step answers the entry through that source's vector from MODE = RUN,
with the NMI latch cleared if NMI is taken, charged with C_INT. -/
def Obligations.InterruptIsTakenByTheStep : Prop :=
  ∀ (s : State) (src : Source), s.cfg.wf = true → s.poll = some src → src ≠ .reset →
    ∃ u, step s = .next u ∧
      Charged (entered { s with mode := .run, nmiPend := s.nmiPend && decide (src ≠ .nmi) } (s.cfg.vec src)) u s.cfg.cInt

/-- For each illegal slot, exec answers the entry through VEC_TRAP under trap and the unchanged state under nop; the
slots are 0x00, 0x02, 0x03, one byte, and cost C_TRAP under trap and C_ILLEGAL, which is 5 and positive, under nop. -/
def Obligations.IllegalSlotTrapsOrDoesNothing : Prop :=
  (∀ (i : Instr) (s : State), i = .illegal00 ∨ i = .illegal02 ∨ i = .illegal03 →
      (s.cfg.illegalPolicy = .trap → exec i s = .next (entered s s.cfg.vecTrap)) ∧
      (s.cfg.illegalPolicy = .nop → exec i s = .next s)) ∧
    RowIs .illegal00 0x00#8 1 5 ∧ RowIs .illegal02 0x02#8 1 5 ∧ RowIs .illegal03 0x03#8 1 5 ∧
    Config.reference.cIllegal = 5 ∧ (∀ c : Config, c.wf = true → 0 < c.cIllegal ∧ 0 < c.cTrap) ∧
    (∀ (c : Config) (e : Byte × Entry), c.wf = true → e ∈ c.table → e.2 ≠ .illegal 0) ∧
    ∀ (c : Config) (op : Byte) (n : Nat), entryOf c op = .illegal n →
      (c.illegalPolicy = .nop → slotCost c op = n) ∧ (c.illegalPolicy = .trap → slotCost c op = c.cTrap)

/-- If the seven bytes below SP are plain memory, then from the state an entry leads to, RTI answers a state with A, B,
X, PC, SP, CC and MODE as before the entry and memory as the entry left it. That ordinary memory, the premise, is
RAM that reads back is the model's choice (log 2), within what R61 leaves to the environment. -/
def Obligations.EntryThenRtiRestores : Prop :=
  ∀ (s : State) (vec : Word), s.StackReady →
    ∃ u, exec .rti (s.interruptEntry vec) = .next u ∧ u.a = s.a ∧ u.b = s.b ∧ u.x = s.x ∧ u.pc = s.pc ∧ u.sp = s.sp ∧
      u.cc = s.cc ∧ u.mode = s.mode ∧ u.mem = (s.interruptEntry vec).mem

/-- In a waiting mode with nothing to take, the step answers the same state charged with one cycle: PC, memory and every
register stay, the timer counts once. -/
def Obligations.WaitingStepOnlyAdvances : Prop :=
  ∀ s : State, s.cfg.wf = true → s.mode ≠ .run → s.poll = none →
    ∃ u, step s = .next u ∧ Charged s u 1 ∧ u.pc = s.pc ∧ u.mem = s.mem ∧ u.mode = s.mode ∧
      u.tim = (if s.cfg.hasTimer then s.tim.tick else s.tim)

/-- In a waiting mode with I = 0, EOCI = 1, ETOI = 0, no serial interrupt enabled and nothing to take, with the compare
due in N cycles: N steps wait one cycle each, then the poll returns OCF and the next step enters through VEC_OCF in
RUN. -/
def Obligations.WaitEndsAtCompareMatch : Prop :=
  ∀ s : State, s.cfg.wf = true → s.cfg.hasTimer = true → s.mode ≠ .run → s.poll = none → s.cc.i = false →
    s.tim.tcsr.getLsbD 3 = true → s.tim.tcsr.getLsbD 2 = false → s.sci.rie = false → s.sci.tie = false →
    (∀ k ≤ (s.tim.ocr - s.tim.cnt - 1#16).toNat, ∃ v, stepsTo s k v ∧ v.poll = none ∧ v.mode = s.mode ∧ v.pc = s.pc) ∧
    ∃ t u, stepsTo s ((s.tim.ocr - s.tim.cnt - 1#16).toNat + 1) t ∧ t.tim.cnt = s.tim.ocr ∧
      t.total = s.total + ((s.tim.ocr - s.tim.cnt - 1#16).toNat + 1) ∧ t.mode = s.mode ∧ t.pc = s.pc ∧
      t.poll = some .ocf ∧ step t = .next u ∧ u.mode = .run ∧
      Charged (entered { t with mode := .run } s.cfg.vecOcf) u s.cfg.cInt

/-- WAI answers the state with MODE = WAIT_WAI and SLP with MODE = WAIT_SLP; nothing is pushed and no flag changes;
their opcodes, lengths and cycles are the table's, and SLP needs HAS_EXT_OPS. -/
def Obligations.WaitInstructions : Prop :=
  ∀ s : State, exec .wai s = .next { s with mode := .waitWai } ∧ exec .slp s = .next { s with mode := .waitSlp } ∧
    RowIs .wai 0x3E#8 1 9 ∧ RowIs .slp 0x1A#8 1 4 ∧ Instr.slp.needs = .ext

/-- If no single cost is above 12, Run(n) ends; where it ends in a state, ICOUNT is at most 0 and above -12 if there was
a budget, ICOUNT and TOTAL account for every granted cycle, and with no budget nothing runs. That an overshoot is
carried is the choice of 90_conflicts.md C2. -/
def Obligations.RunStaysWithinBudget : Prop :=
  ∀ (s : State) (n : Nat), s.cfg.wf = true → s.cfg.cInt ≤ 12 → s.cfg.cTrap ≤ 12 → s.cfg.cIllegal ≤ 12 →
    (∀ e ∈ s.cfg.table, ∀ k, e.2 = .illegal k → k ≤ 12) →
    ∃ o, s.run n = some o ∧ ∀ t, o = .next t →
      t.icount ≤ 0 ∧ (0 < s.icount + n → -12 < t.icount) ∧ t.icount + t.total = s.icount + s.total + n ∧
      (s.icount + n ≤ 0 → t = { s with icount := s.icount + n })

/-- If a step answers a next state, TOTAL has grown and ICOUNT fallen by the same amount, or the step took the reset
latch, which it cleared; no step sets that latch; Run(n) never fails to end. -/
def Obligations.EveryStepMakesProgress : Prop :=
  (∀ s t : State, step s = .next t →
      (s.total < t.total ∨ (s.rstPend = true ∧ t.rstPend = false ∧ t.total = s.total)) ∧
      t.icount + t.total = s.icount + s.total ∧ (s.rstPend = false → t.rstPend = false)) ∧
    ∀ (s : State) (n : Nat), s.run n ≠ none

/-- State.reset meets the invariant: a constructible configuration, canonical memory, armed flags set, the UART's
counters in range and its idle line high. -/
def Obligations.InvariantHoldsAtReset : Prop :=
  State.reset.Inv

/-- From every state with the invariant, a step that answers a next state gives a state with the invariant: memory
canonical (the model's own form), every armed timer flag set, SDIV below the divisor, WUCNT below ten, a switched-
off transmitter or receiver not in a frame, the line high between frames. -/
def Obligations.StepKeepsInvariant : Prop :=
  ∀ s t : State, s.Inv → step s = .next t → t.Inv

/-- Driving any line to any level, the host's reset, the external serial clock and a grant of cycles keep the invariant.
A rising edge of RESET sets its latch and a repeated level changes nothing: the level that an edge is found against
is stored, the model's choice (log 10). -/
def Obligations.HostOperationsKeepInvariant : Prop :=
  (∀ s : State, s.Inv →
      (∀ line l, (s.setLine line l).Inv) ∧ s.hostReset.Inv ∧ s.serialClock.Inv ∧ ∀ n, (s.grant n).Inv) ∧
    ∀ s : State,
      (s.resetLine = false → s.setLine .reset true = { s with rstPend := true, resetLine := true }) ∧
      (s.resetLine = true → s.setLine .reset true = s) ∧ s.setLine .reset false = { s with resetLine := false }

/-- The configuration, the dispatch table among it, is the same after every instruction, every step and every host
operation. -/
def Obligations.ConfigurationNeverChanges : Prop :=
  (∀ s t : State, step s = .next t → t.cfg = s.cfg) ∧ (∀ i s t, exec i s = .next t → t.cfg = s.cfg) ∧
    ∀ s : State, (∀ line l, (s.setLine line l).cfg = s.cfg) ∧ s.hostReset.cfg = s.cfg ∧ s.serialClock.cfg = s.cfg ∧
      ∀ n t, s.run n = some (.next t) → t.cfg = s.cfg

/-- When exec answers a next state, A, B, X, SP, MODE and PC, which stands past the instruction, are as before unless
the instruction's rule writes them (the table writesRegs), and the configuration, the latches, the levels of IRQ,
NMI, RESET, TIN and RXD, ICOUNT and TOTAL are as before; DAA draws one free value and nothing else draws any, in the
model's own counter (log 8). -/
def Obligations.ExecChangesOnlyItsRegisters : Prop :=
  ∀ (i : Instr) (s t : State), exec i s = .next t →
    ((writesRegs i).a = false → t.a = s.a) ∧ ((writesRegs i).b = false → t.b = s.b) ∧
    ((writesRegs i).x = false → t.x = s.x) ∧ ((writesRegs i).sp = false → t.sp = s.sp) ∧
    ((writesRegs i).mode = false → t.mode = s.mode) ∧ ((writesRegs i).pc = false → t.pc = s.pc) ∧
    t.tim.tinLine = s.tim.tinLine ∧ t.sci.rxdLine = s.sci.rxdLine ∧
    t.cfg = s.cfg ∧ t.nmiPend = s.nmiPend ∧ t.rstPend = s.rstPend ∧ t.irqLine = s.irqLine ∧ t.nmiLine = s.nmiLine ∧
    t.resetLine = s.resetLine ∧ t.icount = s.icount ∧ t.total = s.total ∧ t.draws = (if i = .daa then s.draws + 1 else s.draws)

/-- When exec answers a next state, each of H, I, N, Z, V, C is as before unless the instruction's rule lists it as
written (the table writesFlags). DAA lists V, whose value is free. -/
def Obligations.ExecChangesOnlyItsFlags : Prop :=
  ∀ (i : Instr) (s t : State), exec i s = .next t →
    ((writesFlags i).h = false → t.cc.h = s.cc.h) ∧ ((writesFlags i).i = false → t.cc.i = s.cc.i) ∧
    ((writesFlags i).n = false → t.cc.n = s.cc.n) ∧ ((writesFlags i).z = false → t.cc.z = s.cc.z) ∧
    ((writesFlags i).v = false → t.cc.v = s.cc.v) ∧ ((writesFlags i).c = false → t.cc.c = s.cc.c)

/-- When exec answers a next state, every cell of external memory but those reached by the addresses the instruction
stores to, computed from its operands, X and SP as its rule says, holds what it held, and every address of RAM or
ROM that returns such a cell reads as before; instructions that store nothing change no byte. In the reference
configuration an address is its own cell; cells are the model's form of the environment (log 2). -/
def Obligations.ExecStoresOnlyWhereItSays : Prop :=
  ∀ (i : Instr) (s t : State), exec i s = .next t →
    (∀ cell, (∀ addr ∈ stores s i, ramCell s.cfg addr ≠ some cell) → t.mem.read cell = s.mem.read cell) ∧
    (∀ b cell, readCell s.cfg b = some cell → (∀ addr ∈ stores s i, ramCell s.cfg addr ≠ some cell) → t.peek b = s.peek b) ∧
    (∀ addr, plainAddr s.cfg addr = true → ramCell s.cfg addr = some addr ∧ readCell s.cfg addr = some addr)

/-- If none of the addresses that the instruction reads or stores to is a claimed window register, exec answers a state
with the same timer and UART; if none is a device's, the log of accesses to devices, the model's own field (log 2),
is the same. -/
def Obligations.ExecTouchesPeripheralsOnlyThroughWindow : Prop :=
  ∀ (i : Instr) (s t : State), exec i s = .next t →
    ((∀ addr ∈ stores s i ++ reads s i, windowReg s.cfg addr = none) → t.tim = s.tim ∧ t.sci = s.sci) ∧
    ((∀ addr ∈ stores s i ++ reads s i, deviceAddr s.cfg addr = false) → t.devLog = s.devLog)

/-- Immediate operands are the literal and change nothing; a direct address is the byte zero-extended, an indexed one is
X plus the unsigned offset modulo 2^16, an extended one the word; an 8-bit memory operand is one read, a 16-bit one
reads the high byte at the address, then the low byte at the next; the bytes of a 16-bit operand stand high byte
first after the opcode, and a fetch leaves PC past the operand bytes. -/
def Obligations.OperandForms : Prop :=
  ∀ s : State,
    (∀ v : Byte, s.operand8 (.imm v) = (v, s)) ∧ (∀ v : Word, s.operand16 (.imm v) = (v, s)) ∧
    (∀ dd : Byte, (Mem.ea (.dir dd) s).toNat = dd.toNat) ∧
    (∀ ff : Byte, (Mem.ea (.idx ff) s).toNat = (s.x.toNat + ff.toNat) % 65536) ∧
    (∀ hhll : Word, Mem.ea (.ext hhll) s = hhll) ∧
    (∀ m, s.operand8 (.mem m) = s.read8 (m.ea s)) ∧
    (∀ m, s.operand16 (.mem m) =
      ((s.read8 (m.ea s)).1 ++ ((s.read8 (m.ea s)).2.read8 (m.ea s + 1#16)).1,
        ((s.read8 (m.ea s)).2.read8 (m.ea s + 1#16)).2)) ∧
    (∀ v : Byte, decode [0x86#8, v] = .ok (.ldaaImm v, [])) ∧
    (∀ h l : Byte, decode [0xCE#8, h, l] = .ok (.ldxImm (h ++ l), []) ∧ decode [0xFE#8, h, l] = .ok (.ldxExt (h ++ l), [])) ∧
    ∀ op i t, s.fetch = .ok (op, i, t) →
      t = (readUp s s.pc (slotLength s.cfg op)).2.setPc (s.pc + BitVec.ofNat 16 (slotLength s.cfg op))

/-- For all operands and carries: the 8-bit sum and difference, carry, borrow, half carry and overflow are as defined on
integers, equal the bit forms, and overflow says that the signed result does not fit; likewise for words without
carry in. -/
def Obligations.AddAndSubtractBits : Prop :=
  (∀ (a b : Byte) (cin : Bool),
      (addRes 8 a b cin).r.toNat = (a.toNat + b.toNat + cin.toNat) % 256 ∧
      (addRes 8 a b cin).c = decide (255 < a.toNat + b.toNat + cin.toNat) ∧
      (addRes 8 a b cin).c = ((a &&& b) ||| (b &&& ~~~(addRes 8 a b cin).r) ||| (~~~(addRes 8 a b cin).r &&& a)).getLsbD 7 ∧
      halfCarry a b cin = decide (15 < a.toNat % 16 + b.toNat % 16 + cin.toNat) ∧
      halfCarry a b cin = ((a &&& b) ||| (b &&& ~~~(addRes 8 a b cin).r) ||| (~~~(addRes 8 a b cin).r &&& a)).getLsbD 3 ∧
      (addRes 8 a b cin).n = (addRes 8 a b cin).r.getLsbD 7 ∧ (addRes 8 a b cin).z = decide ((addRes 8 a b cin).r.toNat = 0) ∧
      (addRes 8 a b cin).v = (decide (a.getLsbD 7 = b.getLsbD 7) && decide ((addRes 8 a b cin).r.getLsbD 7 ≠ a.getLsbD 7)) ∧
      (addRes 8 a b cin).v = ((a ^^^ (addRes 8 a b cin).r) &&& (b ^^^ (addRes 8 a b cin).r)).getLsbD 7 ∧
      (addRes 8 a b cin).v = overflows 8 (a.toInt + b.toInt + cin.toNat)) ∧
    (∀ (a b : Byte) (bin : Bool),
      ((subRes 8 a b bin).r.toNat : Int) = ((a.toNat : Int) - b.toNat - bin.toNat) % 256 ∧
      (subRes 8 a b bin).c = decide (a.toNat < b.toNat + bin.toNat) ∧
      (subRes 8 a b bin).c = ((~~~a &&& b) ||| (b &&& (subRes 8 a b bin).r) ||| ((subRes 8 a b bin).r &&& ~~~a)).getLsbD 7 ∧
      (subRes 8 a b bin).n = (subRes 8 a b bin).r.getLsbD 7 ∧ (subRes 8 a b bin).z = decide ((subRes 8 a b bin).r.toNat = 0) ∧
      (subRes 8 a b bin).v = (decide (a.getLsbD 7 ≠ b.getLsbD 7) && decide ((subRes 8 a b bin).r.getLsbD 7 ≠ a.getLsbD 7)) ∧
      (subRes 8 a b bin).v = ((a ^^^ b) &&& (a ^^^ (subRes 8 a b bin).r)).getLsbD 7 ∧
      (subRes 8 a b bin).v = overflows 8 (a.toInt - b.toInt - bin.toNat)) ∧
    (∀ a b : Word,
      addRes 16 a b false = ⟨a + b, (a + b).getLsbD 15, decide ((a + b).toNat = 0),
        decide (a.getLsbD 15 = b.getLsbD 15) && decide ((a + b).getLsbD 15 ≠ a.getLsbD 15),
        decide (65535 < a.toNat + b.toNat)⟩ ∧
      subRes 16 a b false = ⟨a - b, (a - b).getLsbD 15, decide ((a - b).toNat = 0),
        decide (a.getLsbD 15 ≠ b.getLsbD 15) && decide ((a - b).getLsbD 15 ≠ a.getLsbD 15),
        decide (a.toNat < b.toNat)⟩)

/-- For every form and state, exec answers the state after the operand's read with the accumulator holding the sum (with
the carry for ADC), H, N, Z, V, C as defined on the integers, I unchanged and nothing else changed; opcodes, lengths
and cycles are the table's. -/
def Obligations.AddResult : Prop :=
  (∀ r src s, exec (add r src) s = .next (
      let m := s.operand8 src
      let v : Byte := BitVec.ofNat 8 ((s.acc r).toNat + m.1.toNat)
      (m.2.setAcc r v).setCc { nzvc s.cc v (overflows 8 ((s.acc r).toInt + m.1.toInt)) (decide (255 < (s.acc r).toNat + m.1.toNat))
        with h := decide (15 < (s.acc r).toNat % 16 + m.1.toNat % 16) })) ∧
    (∀ r src s, exec (adc r src) s = .next (
      let m := s.operand8 src
      let v : Byte := BitVec.ofNat 8 ((s.acc r).toNat + m.1.toNat + s.cc.c.toNat)
      (m.2.setAcc r v).setCc { nzvc s.cc v (overflows 8 ((s.acc r).toInt + m.1.toInt + s.cc.c.toNat))
          (decide (255 < (s.acc r).toNat + m.1.toNat + s.cc.c.toNat))
        with h := decide (15 < (s.acc r).toNat % 16 + m.1.toNat % 16 + s.cc.c.toNat) })) ∧
    AccRows add 0x8B#8 0xCB#8 ∧ AccRows adc 0x89#8 0xC9#8

/-- For every form and state, exec answers the state after the operand's read with the accumulator holding the
difference (less the borrow for SBC), N, Z, V and the borrow C, H and I unchanged and nothing else changed; opcodes,
lengths and cycles are the table's. -/
def Obligations.SubtractResult : Prop :=
  (∀ r src s, exec (sub r src) s = .next (
      let m := s.operand8 src
      (m.2.setAcc r (s.acc r - m.1)).setCc (nzvc s.cc (s.acc r - m.1) (overflows 8 ((s.acc r).toInt - m.1.toInt))
        (decide ((s.acc r).toNat < m.1.toNat))))) ∧
    (∀ r src s, exec (sbc r src) s = .next (
      let m := s.operand8 src
      let v : Byte := BitVec.ofInt 8 (((s.acc r).toNat : Int) - m.1.toNat - s.cc.c.toNat)
      (m.2.setAcc r v).setCc (nzvc s.cc v (overflows 8 ((s.acc r).toInt - m.1.toInt - s.cc.c.toNat))
        (decide ((s.acc r).toNat < m.1.toNat + s.cc.c.toNat))))) ∧
    AccRows sub 0x80#8 0xC0#8 ∧ AccRows sbc 0x82#8 0xC2#8

/-- For every form and state, exec answers the state after the operand's read with N, Z, V and the borrow C of the
difference; the accumulator is not written; opcodes, lengths and cycles are the table's. -/
def Obligations.CompareResult : Prop :=
  (∀ r src s, exec (cmp r src) s = .next (
      let m := s.operand8 src
      m.2.setCc (nzvc s.cc (s.acc r - m.1) (overflows 8 ((s.acc r).toInt - m.1.toInt))
        (decide ((s.acc r).toNat < m.1.toNat))))) ∧
    AccRows cmp 0x81#8 0xC1#8

/-- For every form and state, exec answers the state after the operand's reads with A and B the bytes of the sum or
difference of D and the operand, N, Z, V, C as defined on the integers, H and I unchanged; opcodes, lengths and
cycles are the table's, and both need HAS_D. -/
def Obligations.WordAddSubtractResult : Prop :=
  (∀ src s, exec (addD src) s = .next (
      let m := s.operand16 src
      let v : Word := s.a ++ s.b + m.1
      { m.2 with
        a := v.extractLsb' 8 8, b := v.extractLsb' 0 8
        cc := nzvc s.cc v (overflows 16 ((s.a ++ s.b).toInt + m.1.toInt)) (decide (65535 < (s.a ++ s.b).toNat + m.1.toNat)) })) ∧
    (∀ src s, exec (subD src) s = .next (
      let m := s.operand16 src
      let v : Word := s.a ++ s.b - m.1
      { m.2 with
        a := v.extractLsb' 8 8, b := v.extractLsb' 0 8
        cc := nzvc s.cc v (overflows 16 ((s.a ++ s.b).toInt - m.1.toInt)) (decide ((s.a ++ s.b).toNat < m.1.toNat)) })) ∧
    WordRows addD 0xC3#8 ∧ WordRows subD 0x83#8 ∧ ∀ src, (addD src).needs = .accD ∧ (subD src).needs = .accD

/-- For every state, exec of DAA answers the state with A increased by the correction modulo 256, N and Z from it, C set
if it was set or the sum passes 255, V some value, H and I unchanged (V is free, log 7, drawn with the model's own
counter, log 8; the statement fixes neither); and after ADDA immediate, which takes no carry in, of two BCD bytes
the result is the BCD sum modulo 100 with C for 100 or more. -/
def Obligations.DaaResult : Prop :=
  (∀ s : State, ∃ (v : Bool) (n : Nat), exec .daa s = .next (
      let low := if 9 < s.a.toNat % 16 ∨ s.cc.h = true then 6 else 0
      let high := if 9 < s.a.toNat / 16 ∨ s.cc.c = true ∨ (8 < s.a.toNat / 16 ∧ 9 < s.a.toNat % 16) then 96 else 0
      let r : Byte := BitVec.ofNat 8 (s.a.toNat + low + high)
      { s with a := r, cc := nzvc s.cc r v (s.cc.c || decide (255 < s.a.toNat + low + high)), draws := n })) ∧
    RowIs .daa 0x19#8 1 2 ∧
    ∀ (p q : Nat) (s : State), p < 100 → q < 100 → s.a = bcd p →
      ∃ t u, exec (add .A (.imm (bcd q))) s = .next t ∧ exec .daa t = .next u ∧ u.a = bcd ((p + q) % 100) ∧
        u.cc.c = decide (100 ≤ p + q)

/-- For two decimal numbers below 100 in BCD and either carry, ADCA immediate and then DAA leave the BCD of the sum
modulo 100 in A and the decimal carry in C, from every state. -/
def Obligations.BcdAdditionWithCarry : Prop :=
  ∀ (p q : Nat) (s : State), p < 100 → q < 100 → s.a = bcd p →
    ∃ t u, exec (adc .A (.imm (bcd q))) s = .next t ∧ exec .daa t = .next u ∧
      u.a = bcd ((p + q + s.cc.c.toNat) % 100) ∧ u.cc.c = decide (100 ≤ p + q + s.cc.c.toNat) ∧
      u.cc.z = decide ((p + q + s.cc.c.toNat) % 100 = 0) ∧ u.cc.n = decide (80 ≤ (p + q + s.cc.c.toNat) % 100)

/-- For every state, exec of MUL answers the state with A and B the high and low byte of the product, C bit 7 of the low
byte and everything else unchanged; opcode 0x3D, 1 byte, 7 cycles, needs HAS_D. -/
def Obligations.MultiplyResult : Prop :=
  (∀ s : State, exec .mul s = .next { s with
      a := BitVec.ofNat 8 (s.a.toNat * s.b.toNat / 256)
      b := BitVec.ofNat 8 (s.a.toNat * s.b.toNat)
      cc := { s.cc with c := decide (128 ≤ s.a.toNat * s.b.toNat % 256) } }) ∧
    RowIs .mul 0x3D#8 1 7 ∧ Instr.mul.needs = .accD

/-- INCA, INCB, DECA, DECB answer the state with the accumulator one more or less modulo 256, N and Z from it, V set
exactly from 0x7F up or 0x80 down, C, H, I unchanged; INX and DEX answer X one more or less modulo 2^16 and Z from
it, all other flags unchanged; rows as in the table. -/
def Obligations.IncrementDecrementResult : Prop :=
  (∀ (r : Acc) (s : State),
      exec (match r with | .A => .inca | .B => .incb) s = .next ((s.setAcc r (BitVec.ofNat 8 ((s.acc r).toNat + 1))).setCc
        (nzvc s.cc (BitVec.ofNat 8 ((s.acc r).toNat + 1)) (decide ((s.acc r).toNat = 0x7F)) s.cc.c)) ∧
      exec (match r with | .A => .deca | .B => .decb) s = .next ((s.setAcc r (BitVec.ofNat 8 ((s.acc r).toNat + 255))).setCc
        (nzvc s.cc (BitVec.ofNat 8 ((s.acc r).toNat + 255)) (decide ((s.acc r).toNat = 0x80)) s.cc.c))) ∧
    (∀ s : State,
      exec .inx s = .next { s with
        x := BitVec.ofNat 16 (s.x.toNat + 1), cc := { s.cc with z := decide (s.x.toNat = 0xFFFF) } } ∧
      exec .dex s = .next { s with
        x := BitVec.ofNat 16 (s.x.toNat + 65535), cc := { s.cc with z := decide (s.x.toNat = 1) } }) ∧
    RowIs .inca 0x4C#8 1 1 ∧ RowIs .incb 0x5C#8 1 1 ∧ RowIs .deca 0x4A#8 1 1 ∧ RowIs .decb 0x5A#8 1 1 ∧
    RowIs .inx 0x08#8 1 1 ∧ RowIs .dex 0x09#8 1 1

/-- For every kind, accumulator and state, exec answers the state with the accumulator holding the byte whose bits are
the old ones moved one place, the vacated bit 0, the sign or the old carry, C the bit that left, N and Z of the
result, V = N xor C, H and I and all else unchanged; rows as in the table. -/
def Obligations.ShiftAccumulatorResult : Prop :=
  (∀ (k : ShiftKind) (r : Acc) (s : State), ∃ (v : Byte) (f : CC), exec (shiftAcc k r) s = .next ((s.setAcc r v).setCc f) ∧
      IsShift k 8 (s.acc r) s.cc v f) ∧
    RowIs .asla 0x48#8 1 1 ∧ RowIs .aslb 0x58#8 1 1 ∧ RowIs .asra 0x47#8 1 1 ∧ RowIs .asrb 0x57#8 1 1 ∧
    RowIs .lsra 0x44#8 1 1 ∧ RowIs .lsrb 0x54#8 1 1 ∧ RowIs .rola 0x49#8 1 1 ∧ RowIs .rolb 0x59#8 1 1 ∧
    RowIs .rora 0x46#8 1 1 ∧ RowIs .rorb 0x56#8 1 1

/-- For every kind and form, exec answers the state after one read and one write of the effective address, the byte
shifted as the rule says, with N, Z, V, C; ASLD and LSRD answer the state with D shifted as one 16-bit pattern; H
and I unchanged; rows as in the table, and ASLD and LSRD need HAS_D. -/
def Obligations.ShiftMemoryAndDResult : Prop :=
  (∀ (k : ShiftKind) (m : Mem) (i : Instr) (s : State), shiftMem k m = some i →
      ∃ (v : Byte) (f : CC), exec i s = .next (((s.read8 (m.ea s)).2.write8 (m.ea s) v).setCc f) ∧
        IsShift k 8 (s.read8 (m.ea s)).1 s.cc v f) ∧
    (∀ s : State, ∃ (v : Word) (f : CC),
      exec .asld s = .next { s with a := v.extractLsb' 8 8, b := v.extractLsb' 0 8, cc := f } ∧
        IsShift .asl 16 (s.a ++ s.b) s.cc v f) ∧
    (∀ s : State, ∃ (v : Word) (f : CC),
      exec .lsrd s = .next { s with a := v.extractLsb' 8 8, b := v.extractLsb' 0 8, cc := f } ∧
        IsShift .lsr 16 (s.a ++ s.b) s.cc v f) ∧
    (∀ (ff : Byte) (hhll : Word),
      RowIs (.aslIdx ff) 0x68#8 2 6 ∧ RowIs (.aslExt hhll) 0x78#8 3 6 ∧ RowIs (.asrIdx ff) 0x67#8 2 6 ∧
      RowIs (.asrExt hhll) 0x77#8 3 6 ∧ RowIs (.lsrIdx ff) 0x64#8 2 6 ∧ RowIs (.lsrExt hhll) 0x74#8 3 6 ∧
      RowIs (.rolIdx ff) 0x69#8 2 6 ∧ RowIs (.rolExt hhll) 0x79#8 3 6 ∧ RowIs (.rorIdx ff) 0x66#8 2 6 ∧
      RowIs (.rorExt hhll) 0x76#8 3 6) ∧
    RowIs .asld 0x05#8 1 1 ∧ RowIs .lsrd 0x04#8 1 1 ∧ Instr.asld.needs = .accD ∧ Instr.lsrd.needs = .accD

/-- For every form and state, exec answers the state after the read of the effective address and, but for TIM, the write
of the combined byte there, with N and Z from it, V cleared, C, H, I unchanged; the forms are direct and indexed,
rows as in the table, and all need HAS_EXT_OPS. -/
def Obligations.MaskMemoryResult : Prop :=
  (∀ (o : MaskOp) (ii : Byte) (m : Mem) (i : Instr) (s : State), maskMem o ii m = some i →
      let rd := s.read8 (m.ea s)
      let v := o.apply rd.1 ii
      i.needs = .ext ∧
      exec i s = .next ((if o = .tim then rd.2 else rd.2.write8 (m.ea s) v).setCc (logicFlags s.cc v))) ∧
    ∀ ii dd ff : Byte,
      RowIs (.aimIdx ii ff) 0x61#8 3 7 ∧ RowIs (.aimDir ii dd) 0x71#8 3 6 ∧ RowIs (.oimIdx ii ff) 0x62#8 3 7 ∧
      RowIs (.oimDir ii dd) 0x72#8 3 6 ∧ RowIs (.eimIdx ii ff) 0x65#8 3 7 ∧ RowIs (.eimDir ii dd) 0x75#8 3 6 ∧
      RowIs (.timIdx ii ff) 0x6B#8 3 5 ∧ RowIs (.timDir ii dd) 0x7B#8 3 4 ∧
      encode (.aimDir ii dd) = [0x71#8, ii, dd] ∧ encode (.aimIdx ii ff) = [0x61#8, ii, ff]

/-- For every form and state, exec answers the state after the operand's read with the register loaded, N and Z from the
whole value, V cleared, C, H, I unchanged and nothing else changed; rows as in the table, and LDD needs HAS_D. -/
def Obligations.LoadResult : Prop :=
  (∀ r src s, exec (lda r src) s = .next (
      let m := s.operand8 src
      (m.2.setAcc r m.1).setCc (logicFlags s.cc m.1))) ∧
    (∀ src s, exec (ldd src) s = .next (
      let m := s.operand16 src
      { m.2 with a := m.1.extractLsb' 8 8, b := m.1.extractLsb' 0 8, cc := logicFlags s.cc m.1 })) ∧
    (∀ src s, exec (ldx src) s = .next (
      let m := s.operand16 src
      { m.2 with x := m.1, cc := logicFlags s.cc m.1 })) ∧
    (∀ src s, exec (lds src) s = .next (
      let m := s.operand16 src
      { m.2 with sp := m.1, cc := logicFlags s.cc m.1 })) ∧
    AccRows lda 0x86#8 0xC6#8 ∧ WordRows ldd 0xCC#8 ∧ WordRows ldx 0xCE#8 ∧ WordRows lds 0x8E#8 ∧
    ∀ src, (ldd src).needs = .accD

/-- For every form and state, exec answers the state after the write of the register at the effective address, a word as
its high byte there and then its low byte at the next address, with N and Z from the value, V cleared and nothing
else changed; rows as in the table, and STD needs HAS_D. -/
def Obligations.StoreResult : Prop :=
  (∀ r m s, exec (sta r m) s = .next ((s.write8 (m.ea s) (s.acc r)).setCc (logicFlags s.cc (s.acc r)))) ∧
    (∀ m s, exec (std m) s = .next (
      ((s.write8 (m.ea s) s.a).write8 (m.ea s + 1#16) s.b).setCc (logicFlags (w := 16) s.cc (s.a ++ s.b)))) ∧
    (∀ m s, exec (stx m) s = .next (
      ((s.write8 (m.ea s) (s.x.extractLsb' 8 8)).write8 (m.ea s + 1#16) (s.x.extractLsb' 0 8)).setCc
        (logicFlags s.cc s.x))) ∧
    StoreRows (sta .A) 0x97#8 3 4 4 ∧ StoreRows (sta .B) 0xD7#8 3 4 4 ∧ StoreRows std 0xDD#8 4 5 5 ∧
    StoreRows stx 0xDF#8 4 5 5 ∧ ∀ m, (std m).needs = .accD

/-- Each branch, on every state and offset, answers the state with PC moved by the signed offset modulo 2^16 if its
condition holds and the same state if not; it writes nothing else, is two bytes and costs three cycles either way. -/
def Obligations.BranchOnOneFlag : Prop :=
  (∀ rr s, exec (.bra rr) s = .next { s with pc := target s rr } ∧ RowIs (.bra rr) 0x20#8 2 3) ∧
    (∀ rr s, exec (.brn rr) s = .next s ∧ RowIs (.brn rr) 0x21#8 2 3) ∧
    BranchIs .bcc 0x24#8 (fun f => f.c = false) ∧ BranchIs .bcs 0x25#8 (fun f => f.c = true) ∧
    BranchIs .bne 0x26#8 (fun f => f.z = false) ∧ BranchIs .beq 0x27#8 (fun f => f.z = true) ∧
    BranchIs .bvc 0x28#8 (fun f => f.v = false) ∧ BranchIs .bvs 0x29#8 (fun f => f.v = true) ∧
    BranchIs .bpl 0x2A#8 (fun f => f.n = false) ∧ BranchIs .bmi 0x2B#8 (fun f => f.n = true)

/-- Each of the six branches is taken exactly on its stated condition on C, Z, N, V; after CMPA or CMPB in any form,
these six and BCC, BCS, BNE, BEQ are taken exactly when accumulator and operand stand in the order the mnemonic
names, unsigned or signed. -/
def Obligations.BranchOnComparison : Prop :=
  BranchIs .bhi 0x22#8 (fun f => f.c = false ∧ f.z = false) ∧ BranchIs .bls 0x23#8 (fun f => f.c = true ∨ f.z = true) ∧
    BranchIs .bge 0x2C#8 (fun f => f.n = f.v) ∧ BranchIs .blt 0x2D#8 (fun f => f.n ≠ f.v) ∧
    BranchIs .bgt 0x2E#8 (fun f => f.z = false ∧ f.n = f.v) ∧ BranchIs .ble 0x2F#8 (fun f => f.z = true ∨ f.n ≠ f.v) ∧
    TakenAfterCompare .bhi (fun x m => m.toNat < x.toNat) ∧ TakenAfterCompare .bls (fun x m => x.toNat ≤ m.toNat) ∧
    TakenAfterCompare .bcc (fun x m => m.toNat ≤ x.toNat) ∧ TakenAfterCompare .bcs (fun x m => x.toNat < m.toNat) ∧
    TakenAfterCompare .bne (fun x m => x ≠ m) ∧ TakenAfterCompare .beq (fun x m => x = m) ∧
    TakenAfterCompare .bge (fun x m => m.toInt ≤ x.toInt) ∧ TakenAfterCompare .blt (fun x m => x.toInt < m.toInt) ∧
    TakenAfterCompare .bgt (fun x m => m.toInt < x.toInt) ∧ TakenAfterCompare .ble (fun x m => x.toInt ≤ m.toInt)

/-- JMP answers PC at the effective address; JSR and BSR write the low byte of PC at SP, then the high byte at SP - 1,
move SP down by two and go to the effective address or the branch target; RTS reads the high byte at SP + 1 and the
low byte at SP + 2 into PC and moves SP up by two; nothing else changes; rows as in the table. -/
def Obligations.TransferResult : Prop :=
  (∀ m i s, jmp m = some i → exec i s = .next { s with pc := m.ea s }) ∧
    (∀ m s, exec (jsr m) s = .next { writeDown s s.sp [loByte s.pc, hiByte s.pc] with sp := s.sp - 2#16, pc := m.ea s }) ∧
    (∀ rr s, exec (.bsr rr) s =
      .next { writeDown s s.sp [loByte s.pc, hiByte s.pc] with sp := s.sp - 2#16, pc := target s rr }) ∧
    (∀ s, exec .rts s = .next (
      let q := readUp s (s.sp + 1#16) 2
      { q.2 with sp := s.sp + 2#16, pc := joinBytes (q.1.getD 0 0#8) (q.1.getD 1 0#8) })) ∧
    (∀ (ff : Byte) (hhll : Word), RowIs (.jmpIdx ff) 0x6E#8 2 3 ∧ RowIs (.jmpExt hhll) 0x7E#8 3 3) ∧
    StoreRows jsr 0x9D#8 5 5 6 ∧ (∀ rr, RowIs (.bsr rr) 0x8D#8 2 5) ∧ RowIs .rts 0x39#8 1 5

/-- If the two bytes at SP and below it are plain memory, JSR in any form, or BSR, followed by RTS answers PC and SP as
they were, and every other register as it was; and a word pushed there is the word pulled. That ordinary memory, the
premise, is RAM that reads back is the model's choice (log 2), within what R61 leaves to the environment. -/
def Obligations.CallThenReturn : Prop :=
  ∀ s : State, PlainRange s.cfg (s.sp - 1#16) 2 →
    (∀ i : Instr, ((∃ m, i = jsr m) ∨ ∃ rr, i = .bsr rr) →
      ∃ t u, exec i s = .next t ∧ exec .rts t = .next u ∧ u.pc = s.pc ∧ u.sp = s.sp ∧ u.a = s.a ∧ u.b = s.b ∧ u.x = s.x ∧
        u.cc = s.cc ∧ u.mode = s.mode) ∧
    ∀ v : Word, (s.push16 v).pull16 = (v, { s.push16 v with sp := s.sp })

/-- CC reads as 0xC0 with H, I, N, Z, V, C in bits 5 to 0, and loading a byte keeps its low six bits; NOP changes
nothing, TAP loads CC from A, TPA loads A from CC, and CLV, SEV, CLC, SEC, CLI, SEI change one flag each; all are
one byte and one cycle. -/
def Obligations.ConditionCodeInstructions : Prop :=
  (∀ f : CC, f.toByte = BitVec.ofNat 8 (192 + 32 * f.h.toNat + 16 * f.i.toNat + 8 * f.n.toNat + 4 * f.z.toNat +
      2 * f.v.toNat + f.c.toNat)) ∧
    (∀ v : Byte, (CC.ofByte v).toByte = v ||| 0xC0#8) ∧
    (∀ s : State, exec .nop s = .next s ∧ exec .tap s = .next { s with cc := CC.ofByte s.a } ∧
      exec .tpa s = .next { s with a := s.cc.toByte } ∧
      exec .clv s = .next { s with cc := { s.cc with v := false } } ∧ exec .sev s = .next { s with cc := { s.cc with v := true } } ∧
      exec .clc s = .next { s with cc := { s.cc with c := false } } ∧ exec .sec s = .next { s with cc := { s.cc with c := true } } ∧
      exec .cli s = .next { s with cc := { s.cc with i := false } } ∧ exec .sei s = .next { s with cc := { s.cc with i := true } }) ∧
    RowIs .nop 0x01#8 1 1 ∧ RowIs .tap 0x06#8 1 1 ∧ RowIs .tpa 0x07#8 1 1 ∧ RowIs .clv 0x0A#8 1 1 ∧ RowIs .sev 0x0B#8 1 1 ∧
    RowIs .clc 0x0C#8 1 1 ∧ RowIs .sec 0x0D#8 1 1 ∧ RowIs .cli 0x0E#8 1 1 ∧ RowIs .sei 0x0F#8 1 1

/-- For every state, exec of RTI answers the state after seven reads from SP + 1 upwards, with CC, B, A, X and PC loaded
from them in this order, high bytes first, SP seven higher and MODE, the latches and all else unchanged; opcode
0x3B, 1 byte, 10 cycles. -/
def Obligations.RtiResult : Prop :=
  (∀ s : State, exec .rti s = .next (
      let q := readUp s (s.sp + 1#16) 7
      { q.2 with
        cc := CC.ofByte (q.1.getD 0 0#8), b := q.1.getD 1 0#8, a := q.1.getD 2 0#8
        x := joinBytes (q.1.getD 3 0#8) (q.1.getD 4 0#8), pc := joinBytes (q.1.getD 5 0#8) (q.1.getD 6 0#8)
        sp := s.sp + 7#16 })) ∧ RowIs .rti 0x3B#8 1 10

/-- Push8 writes at SP and then decrements it, Pull8 increments it and then reads; Push16 pushes the low byte, then the
high byte; Pull16 reads the high byte, then the low byte; all through the ordinary memory path, the window and its
side effects with it. -/
def Obligations.StackPrimitives : Prop :=
  ∀ s : State,
    (∀ v : Byte, s.push8 v = { s.write8 s.sp v with sp := s.sp - 1#16 }) ∧
    s.pull8 = (s.peek (s.sp + 1#16), { s.readEffect (s.sp + 1#16) with sp := s.sp + 1#16 }) ∧
    (∀ v : Word, s.push16 v = { writeDown s s.sp [loByte v, hiByte v] with sp := s.sp - 2#16 }) ∧
    s.pull16 = (joinBytes ((readUp s (s.sp + 1#16) 2).1.getD 0 0#8) ((readUp s (s.sp + 1#16) 2).1.getD 1 0#8),
      { (readUp s (s.sp + 1#16) 2).2 with sp := s.sp + 2#16 })

/-- A byte written to an address of RAM is what every address that reaches the same cell reads, and every other address
reads as it did; ROM reads its cell, an unpopulated address reads IDLE_BUS, and a write to either changes nothing; a
device's read is the environment's function of the accesses so far, the time and the address, and a read or a write
of it does nothing but add to these accesses; a claimed register never reaches memory; writes keep the canonical
form, in which memories that read alike are equal. These forms of ExtRead and ExtWrite are the model's choice (log
2), within what R61 leaves to the environment. -/
def Obligations.MemoryIsRamAndCanonical : Prop :=
  (∀ (s : State) (addr cell : Word) (v : Byte), ramCell s.cfg addr = some cell →
      ∀ b, (s.write8 addr v).peek b = if readCell s.cfg b = some cell then v else s.peek b) ∧
    (∀ (s : State) (addr : Word) (v : Byte), ramCell s.cfg addr = none → (s.write8 addr v).mem = s.mem) ∧
    (∀ (s : State) (addr : Word), windowReg s.cfg addr = none →
      (∀ cell, s.cfg.backing addr = .rom cell →
        s.read8 addr = (s.mem.read cell, s) ∧ ∀ v, s.write8 addr v = s) ∧
      (s.cfg.backing addr = .idle → s.read8 addr = (Config.idleBus, s) ∧ ∀ v, s.write8 addr v = s) ∧
      (s.cfg.backing addr = .device →
        s.read8 addr = (Config.deviceByte s.devLog s.total addr, { s with devLog := ⟨s.total, addr, none⟩ :: s.devLog }) ∧
          ∀ v, s.write8 addr v = { s with devLog := ⟨s.total, addr, some v⟩ :: s.devLog })) ∧
    (∀ (m : Memory) (addr : Word) (v : Byte), m.wf = true → (m.write addr v).wf = true) ∧
    ∀ m n : Memory, m.wf = true → n.wf = true → (∀ addr : Word, m.read addr = n.read addr) → m = n

/-- With the timer and the UART present, at each of the eleven offsets a read returns the stated value and has the
stated side effect, and a write has the stated effect; no other offset is claimed. Without the timer, and likewise
without the UART, its offsets are the environment's, cycles and clocks do not move it, it requests nothing, and TXD
reads 1. -/
def Obligations.WindowRegisters : Prop :=
  (∀ s : State, s.cfg.hasTimer = true → s.cfg.hasSci = true →
      RegisterIs s 0x08 s.tim.tcsr { s with tim := { s.tim with tpend := s.tim.tcsr &&& 0xE0#8 } }
        (fun v => { s with tim := { s.tim with tcsr := (s.tim.tcsr &&& 0xE0#8) ||| (v &&& 0x1F#8) } }) ∧
      RegisterIs s 0x09 (hiByte s.tim.cnt) { s with tim := clearedIfArmed s.tim .tof }
        (fun v => { s with tim := { s.tim with chlatch := v, cnt := 0xFFF8#16 } }) ∧
      (s.cfg.clFallthrough = true →
        RegisterIs s 0x0A (hiByte s.tim.ocr) { s with tim := clearedIfArmed s.tim .ocf }
          (fun v => { s with tim := { s.tim with cnt := joinBytes s.tim.chlatch v } })) ∧
      (s.cfg.clFallthrough = false →
        RegisterIs s 0x0A (loByte s.tim.cnt) s (fun v => { s with tim := { s.tim with cnt := joinBytes s.tim.chlatch v } })) ∧
      RegisterIs s 0x0B (hiByte s.tim.ocr) { s with tim := clearedIfArmed s.tim .ocf }
        (fun v => { s with tim := clearedIfArmed { s.tim with ocr := joinBytes v (loByte s.tim.ocr) } .ocf }) ∧
      RegisterIs s 0x0C (loByte s.tim.ocr) s
        (fun v => { s with tim := clearedIfArmed { s.tim with ocr := joinBytes (hiByte s.tim.ocr) v } .ocf }) ∧
      RegisterIs s 0x0D (hiByte s.tim.icr) { s with tim := clearedIfArmed s.tim .icf } (fun _ => s) ∧
      RegisterIs s 0x0E (loByte s.tim.icr) s (fun _ => s) ∧
      RegisterIs s 0x10 (s.sci.rmcr.setWidth 8) s
        (fun v => { s with sci := { s.sci with rmcr := v.extractLsb' 0 4, sdiv := 0 } }) ∧
      RegisterIs s 0x11 s.sci.trcsr s (fun v => { s with sci := trcsrWritten s.sci v }) ∧
      RegisterIs s 0x12 s.sci.rdr { s with sci := { s.sci with trcsr := s.sci.trcsr &&& 0x3F#8 } } (fun _ => s) ∧
      RegisterIs s 0x13 Config.idleBus s
        (fun v => { s with sci := { s.sci with tdr := v, trcsr := s.sci.trcsr &&& 0xDF#8 } })) ∧
    (∀ s : State, s.cfg.hasTimer = false →
      (∀ off ∈ [0x08, 0x09, 0x0A, 0x0B, 0x0C, 0x0D, 0x0E], GoesToEnvironment s (windowAddr s off)) ∧
        (∀ n, s.timerAdvance n = s) ∧ ∀ src, src = .icf ∨ src = .ocf ∨ src = .tof → s.requests src = false) ∧
    (∀ s : State, s.cfg.hasSci = false →
      (∀ off ∈ [0x10, 0x11, 0x12, 0x13], GoesToEnvironment s (windowAddr s off)) ∧
        (∀ n, s.serialAdvance n = s) ∧ s.serialClock = s ∧ s.readTxd = true ∧ s.requests .sci = false) ∧
    ∀ (c : Config) (addr : Word), (windowReg c addr).isSome = true →
      (addr - c.ioBase).toNat ∈ [0x08, 0x09, 0x0A, 0x0B, 0x0C, 0x0D, 0x0E, 0x10, 0x11, 0x12, 0x13]

/-- A read that changes the state is a read of one of the listed registers or of a device of the environment; a read
changes nothing but the timer and the UART, and for a device, which is not claimed, nothing but the log of accesses
to it (the model's own field, log 2); reading an address that is not claimed is an ExtRead, and Peek returns the
byte that the read returns. -/
def Obligations.ReadSideEffectsAreListed : Prop :=
  ∀ (s : State) (addr : Word),
    (s.readEffect addr ≠ s → deviceAddr s.cfg addr = true ∨ ∃ r, windowReg s.cfg addr = some r ∧ (r = .tcsr ∨ r = .ch ∨ r = .ocrh ∨ r = .icrh ∨ r = .rdr ∨
      (r = .cl ∧ s.cfg.clFallthrough = true))) ∧
    (deviceAddr s.cfg addr = false →
      s.readEffect addr = { s with tim := (s.readEffect addr).tim, sci := (s.readEffect addr).sci }) ∧
    (deviceAddr s.cfg addr = true → s.readEffect addr = { s with devLog := (s.readEffect addr).devLog }) ∧
    s.read8 addr = (s.peek addr, s.readEffect addr) ∧
    (windowReg s.cfg addr = none → s.read8 addr = (s.extRead addr, s.extReadEffect addr))

/-- For every timer and n: CNT has grown by n modulo 2^16; OCF is set if it was or if (OCR - CNT - 1) mod 65536 < n, TOF
if it was or if (0xFFFE - CNT) mod 65536 < n; a raised flag is disarmed, an unraised one keeps its arming; ICF, the
enables, OCR, ICR, CHLATCH and TIN stay. -/
def Obligations.TimerAdvanceClosedForm : Prop :=
  ∀ (t : Timer) (n : Nat),
    (t.advance n).cnt = t.cnt + BitVec.ofNat 16 n ∧
    (t.advance n).flag .ocf = (t.flag .ocf || decide ((t.ocr - t.cnt - 1#16).toNat < n)) ∧
    (t.advance n).flag .tof = (t.flag .tof || decide ((0xFFFE#16 - t.cnt).toNat < n)) ∧
    (t.advance n).armed .ocf = (t.armed .ocf && !decide ((t.ocr - t.cnt - 1#16).toNat < n)) ∧
    (t.advance n).armed .tof = (t.armed .tof && !decide ((0xFFFE#16 - t.cnt).toNat < n)) ∧
    (t.advance n).flag .icf = t.flag .icf ∧ (t.advance n).armed .icf = t.armed .icf ∧
    (t.advance n).tcsr &&& 0x1F#8 = t.tcsr &&& 0x1F#8 ∧ (t.advance n).ocr = t.ocr ∧ (t.advance n).icr = t.icr ∧
    (t.advance n).chlatch = t.chlatch ∧ (t.advance n).tinLine = t.tinLine

/-- For each flag and every list of accesses and events: without a status read since its raise the flag survives
everything; a status read that sees it, then any accesses and events that do not raise it and are not its own, then
its qualifying access, clear it; after a status read that saw it clear, and no later one, its qualifying access
changes nothing of it. -/
def Obligations.TimerFlagProtocol : Prop :=
  ∀ (t : Timer) (f : TFlag) (ops : List TimerOp),
    ((∀ o ∈ ops, o ≠ .readTcsr) → (runTimer (t.raiseFlag f) ops).flag f = true) ∧
    (∀ q, q.qualifies f = true → t.flag f = true → (∀ o ∈ ops, o.qualifies f = false) →
      NeverRaised f t.armFlags ops → (runTimer t (.readTcsr :: ops ++ [q])).flag f = false) ∧
    (∀ q, q.qualifies f = true → t.flag f = false → (∀ o ∈ ops, o ≠ .readTcsr) →
      (runTimer t (.readTcsr :: ops ++ [q])).flag f = (runTimer t (.readTcsr :: ops)).flag f)

/-- Writing CH then CL leaves the counter at the word written; CH alone leaves 0xFFF8, from which the seventh cycle and
not an earlier one sets TOF, and OCF too if OCR is 0xFFFF; CL alone loads the latch and the byte; neither write
changes a flag, a shadow bit or a compare or capture register. -/
def Obligations.CounterWritesLoadAndPreset : Prop :=
  ∀ (t : Timer) (h l : Byte),
    ((t.writeCh h).writeCl l).cnt = joinBytes h l ∧ (t.writeCl l).cnt = joinBytes t.chlatch l ∧
    (t.writeCh h).cnt = 0xFFF8#16 ∧ (t.writeCh h).chlatch = h ∧ (t.writeCl l).chlatch = t.chlatch ∧
    (∀ u, u = t.writeCh h ∨ u = t.writeCl l → u.tcsr = t.tcsr ∧ u.tpend = t.tpend ∧ u.ocr = t.ocr ∧ u.icr = t.icr) ∧
    (∀ k ≤ 6, ((t.writeCh h).advance k).flag .tof = t.flag .tof) ∧ ((t.writeCh h).advance 7).flag .tof = true ∧
    (t.ocr = 0xFFFF#16 → ((t.writeCh h).advance 7).flag .ocf = true)

/-- An edge on TIN that IEDG selects stores the level, latches CNT in ICR, sets ICF and disarms it; any other change
stores the level alone. A rising edge of NMI sets its latch, a held or repeated level sets nothing more, a second
edge merges; IRQ is stored as a level, so a pulse between two polls leaves no trace, and while it is high and
unmasked, with no reset or NMI latched, every poll returns it. -/
def Obligations.LineChangesAndCapture : Prop :=
  ∀ s : State,
    (∀ l, s.cfg.hasTimer = true →
      (((if s.tim.tcsr.getLsbD 1 then !s.tim.tinLine && l else s.tim.tinLine && !l) = true →
        s.setLine .tin l = { s with tim := { s.tim with
          tinLine := l, icr := s.tim.cnt, tcsr := s.tim.tcsr ||| 0x80#8, tpend := s.tim.tpend &&& 0x7F#8 } }) ∧
      ((if s.tim.tcsr.getLsbD 1 then !s.tim.tinLine && l else s.tim.tinLine && !l) = false →
        s.setLine .tin l = { s with tim := { s.tim with tinLine := l } }))) ∧
    (∀ l, s.setLine .irq l = { s with irqLine := l }) ∧
    (s.irqLine = false → (s.setLine .irq true).setLine .irq false = s) ∧
    (s.irqLine = true → s.cc.i = false → s.rstPend = false → s.nmiPend = false → s.poll = some .irq) ∧
    (s.nmiLine = false → s.setLine .nmi true = { s with nmiPend := true, nmiLine := true }) ∧
    (s.nmiLine = true → s.setLine .nmi true = s) ∧ (∀ l, l = false → s.setLine .nmi l = { s with nmiLine := false }) ∧
    ((((s.setLine .nmi false).setLine .nmi true).setLine .nmi false).setLine .nmi true) =
      (s.setLine .nmi false).setLine .nmi true

/-- With the internal source and positive divisors, SerialAdvance(n) makes exactly (SDIV + n) / BAUD_DIV[SS] ticks and
leaves SDIV at the remainder; with the external source it changes nothing, and SerialClock makes one tick then,
leaving SDIV, and none otherwise; one tick is the transmitter's half, then the receiver's; the divisor is the one
that RMCR[1:0] selects, by default of 16, 128, 1024, 4096, and RMCR[3:2] = 3 selects the external source. -/
def Obligations.SerialAdvanceMakesTicks : Prop :=
  ∀ (c : Config) (u : Sci) (n : Nat), c.wf = true →
    (u.externalClock = false → u.advance c n =
      { ticks c ((u.sdiv + n) / u.divisor c) u with sdiv := (u.sdiv + n) % u.divisor c }) ∧
    (u.externalClock = true → u.advance c n = u ∧ u.clock c = u.tick c ∧ (u.clock c).sdiv = u.sdiv) ∧
    (u.externalClock = false → u.clock c = u) ∧ (c.loopback = false → u.tick c = u.txTick.rxTick) ∧
    u.divisor c = [c.baud0, c.baud1, c.baud2, c.baud3].getD (u.rmcr.toNat % 4) 0 ∧
    u.externalClock = decide (u.rmcr.toNat / 4 = 3) ∧
    Config.reference.baud0 = 16 ∧ Config.reference.baud1 = 128 ∧ Config.reference.baud2 = 1024 ∧
    Config.reference.baud3 = 4096

/-- A tick does what the transmitter's machine says in each state: nothing with TE clear, the line high when idle with
no byte waiting, the load and the start bit with one, a data bit from bit 0 of TSR, the stop bit. With TE set, the
transmitter idle and a byte waiting, the levels of TXD over the next ten ticks are low, the eight bits of TDR from
bit 0 to bit 7, and high; TDRE is set from the first tick; after the tenth the transmitter is idle. -/
def Obligations.TransmitterSendsTheFrame : Prop :=
  (∀ u : Sci, (u.te = false → u.txTick = u) ∧
      (u.te = true → u.txst = .idle → u.tdre = true → u.txTick = { u with txdLine := true }) ∧
      (u.te = true → u.txst = .idle → u.tdre = false →
        u.txTick = { u with tsr := u.tdr, trcsr := u.trcsr ||| 0x20#8, txdLine := false, txst := .data 0 }) ∧
      (∀ i, u.te = true → u.txst = .data i → u.txTick = { u with
        txdLine := u.tsr.getLsbD 0, tsr := BitVec.ofNat 8 (u.tsr.toNat / 2)
        txst := if i = 7 then .stop else .data (i + 1) }) ∧
      (u.te = true → u.txst = .stop → u.txTick = { u with txdLine := true, txst := .idle })) ∧
    ∀ (c : Config) (u : Sci), u.te = true → u.txst = .idle → u.tdre = false →
    txdLevels c 10 u = [false] ++ dataBits u.tdr ++ [true] ∧ (u.tick c).tdre = true ∧ (ticks c 10 u).tdre = true ∧
      (ticks c 10 u).txst = .idle ∧ (u.tick c).tsr = u.tdr

/-- With RE set, no wake-up hold, the receiver idle and the line last sampled high, the samples low, the eight bits of
v, and a stop level leave the receiver idle and: if RDRF was set, RDR as it was and ORFE set; else with a high stop
bit RDR = v, RDRF set, ORFE as it was; else RDR = v, ORFE set, RDRF clear. The other bits of TRCSR stay. -/
def Obligations.ReceiverTakesTheFrame : Prop :=
  ∀ (u : Sci) (v : Byte) (stop : Bool), u.re = true → u.wu = false → u.rxst = .idle → u.rxprev = true →
    let w := receive u ([false] ++ dataBits v ++ [stop])
    w.rxst = .idle ∧ w.rxprev = stop ∧ w.trcsr &&& 0x3F#8 = u.trcsr &&& 0x3F#8 ∧
      (u.rdrf = true → w.rdr = u.rdr ∧ w.rdrf = true ∧ w.orfe = true) ∧
      (u.rdrf = false → stop = true → w.rdr = v ∧ w.rdrf = true ∧ w.orfe = u.orfe) ∧
      (u.rdrf = false → stop = false → w.rdr = v ∧ w.rdrf = false ∧ w.orfe = true)

/-- With the loopback wire, TE and RE set, no wake-up hold, both machines idle, the line last sampled high and no
receive flag set, writing any byte to TDR and ten ticks give RDR = that byte, RDRF and TDRE set, ORFE clear. The
wire is the environment's, a field of the model's configuration (log 14). -/
def Obligations.SerialLoopbackReturnsEveryByte : Prop :=
  ∀ (c : Config) (u : Sci) (v : Byte), c.loopback = true → u.te = true → u.re = true → u.wu = false → u.txst = .idle →
    u.rxst = .idle → u.rxprev = true → u.rdrf = false → u.orfe = false →
    let w := ticks c 10 (u.writeTdr v)
    w.rdr = v ∧ w.rdrf = true ∧ w.orfe = false ∧ w.tdre = true ∧ w.txst = .idle ∧ w.rxst = .idle

/-- With RE and WU set: a low sample sets the count to 0 and keeps WU; k < 10 high samples from a count of 0 keep WU
with the count at k; ten clear WU and leave the receiver idle; none of these changes RDR, RSR, RDRF or ORFE; with RE
clear nothing is counted. -/
def Obligations.WakeUpNeedsTenHighSamples : Prop :=
  ∀ u : Sci, u.wu = true →
    (u.re = true → (receive u [false]).wucnt = 0 ∧ (receive u [false]).wu = true) ∧
    (u.re = true → u.wucnt = 0 →
      (∀ k < 10, (receive u (List.replicate k true)).wu = true ∧ (receive u (List.replicate k true)).wucnt = k) ∧
      (receive u (List.replicate 10 true)).wu = false ∧ (receive u (List.replicate 10 true)).rxst = .idle ∧
      (receive u (List.replicate 10 true)).wucnt = 0) ∧
    (∀ l : Bool, let w := receive u [l]
      w.rdr = u.rdr ∧ w.rsr = u.rsr ∧ w.rdrf = u.rdrf ∧ w.orfe = u.orfe ∧ (u.re = false → w.wucnt = u.wucnt ∧ w.wu = true))

end Statements
end

