-- ==== Sys2Proof/Laws/State.lean ====
section
/-!
SUPPORT. What each update of the state does to each field: one lemma per field and update. The first group holds by `rfl`;
the second says of each memory operation that it changes nothing but the timer, the UART, external memory and the log of
the environment's devices.
-/

namespace Sys2Proof.Machine

@[simp] theorem State.setD_cfg (s : State) (v : Word) : (s.setD v).cfg = s.cfg := rfl
@[simp] theorem State.setD_a (s : State) (v : Word) : (s.setD v).a = hiByte v := rfl
@[simp] theorem State.setD_b (s : State) (v : Word) : (s.setD v).b = loByte v := rfl
@[simp] theorem State.setD_x (s : State) (v : Word) : (s.setD v).x = s.x := rfl
@[simp] theorem State.setD_sp (s : State) (v : Word) : (s.setD v).sp = s.sp := rfl
@[simp] theorem State.setD_pc (s : State) (v : Word) : (s.setD v).pc = s.pc := rfl
@[simp] theorem State.setD_cc (s : State) (v : Word) : (s.setD v).cc = s.cc := rfl
@[simp] theorem State.setD_mode (s : State) (v : Word) : (s.setD v).mode = s.mode := rfl
@[simp] theorem State.setD_nmiPend (s : State) (v : Word) : (s.setD v).nmiPend = s.nmiPend := rfl
@[simp] theorem State.setD_rstPend (s : State) (v : Word) : (s.setD v).rstPend = s.rstPend := rfl
@[simp] theorem State.setD_irqLine (s : State) (v : Word) : (s.setD v).irqLine = s.irqLine := rfl
@[simp] theorem State.setD_nmiLine (s : State) (v : Word) : (s.setD v).nmiLine = s.nmiLine := rfl
@[simp] theorem State.setD_resetLine (s : State) (v : Word) : (s.setD v).resetLine = s.resetLine := rfl
@[simp] theorem State.setD_icount (s : State) (v : Word) : (s.setD v).icount = s.icount := rfl
@[simp] theorem State.setD_total (s : State) (v : Word) : (s.setD v).total = s.total := rfl
@[simp] theorem State.setD_tim (s : State) (v : Word) : (s.setD v).tim = s.tim := rfl
@[simp] theorem State.setD_sci (s : State) (v : Word) : (s.setD v).sci = s.sci := rfl
@[simp] theorem State.setD_mem (s : State) (v : Word) : (s.setD v).mem = s.mem := rfl
@[simp] theorem State.setD_devLog (s : State) (v : Word) : (s.setD v).devLog = s.devLog := rfl
@[simp] theorem State.setD_draws (s : State) (v : Word) : (s.setD v).draws = s.draws := rfl

@[simp] theorem State.setX_cfg (s : State) (v : Word) : (s.setX v).cfg = s.cfg := rfl
@[simp] theorem State.setX_a (s : State) (v : Word) : (s.setX v).a = s.a := rfl
@[simp] theorem State.setX_b (s : State) (v : Word) : (s.setX v).b = s.b := rfl
@[simp] theorem State.setX_x (s : State) (v : Word) : (s.setX v).x = v := rfl
@[simp] theorem State.setX_sp (s : State) (v : Word) : (s.setX v).sp = s.sp := rfl
@[simp] theorem State.setX_pc (s : State) (v : Word) : (s.setX v).pc = s.pc := rfl
@[simp] theorem State.setX_cc (s : State) (v : Word) : (s.setX v).cc = s.cc := rfl
@[simp] theorem State.setX_mode (s : State) (v : Word) : (s.setX v).mode = s.mode := rfl
@[simp] theorem State.setX_nmiPend (s : State) (v : Word) : (s.setX v).nmiPend = s.nmiPend := rfl
@[simp] theorem State.setX_rstPend (s : State) (v : Word) : (s.setX v).rstPend = s.rstPend := rfl
@[simp] theorem State.setX_irqLine (s : State) (v : Word) : (s.setX v).irqLine = s.irqLine := rfl
@[simp] theorem State.setX_nmiLine (s : State) (v : Word) : (s.setX v).nmiLine = s.nmiLine := rfl
@[simp] theorem State.setX_resetLine (s : State) (v : Word) : (s.setX v).resetLine = s.resetLine := rfl
@[simp] theorem State.setX_icount (s : State) (v : Word) : (s.setX v).icount = s.icount := rfl
@[simp] theorem State.setX_total (s : State) (v : Word) : (s.setX v).total = s.total := rfl
@[simp] theorem State.setX_tim (s : State) (v : Word) : (s.setX v).tim = s.tim := rfl
@[simp] theorem State.setX_sci (s : State) (v : Word) : (s.setX v).sci = s.sci := rfl
@[simp] theorem State.setX_mem (s : State) (v : Word) : (s.setX v).mem = s.mem := rfl
@[simp] theorem State.setX_devLog (s : State) (v : Word) : (s.setX v).devLog = s.devLog := rfl
@[simp] theorem State.setX_draws (s : State) (v : Word) : (s.setX v).draws = s.draws := rfl

@[simp] theorem State.setSp_cfg (s : State) (v : Word) : (s.setSp v).cfg = s.cfg := rfl
@[simp] theorem State.setSp_a (s : State) (v : Word) : (s.setSp v).a = s.a := rfl
@[simp] theorem State.setSp_b (s : State) (v : Word) : (s.setSp v).b = s.b := rfl
@[simp] theorem State.setSp_x (s : State) (v : Word) : (s.setSp v).x = s.x := rfl
@[simp] theorem State.setSp_sp (s : State) (v : Word) : (s.setSp v).sp = v := rfl
@[simp] theorem State.setSp_pc (s : State) (v : Word) : (s.setSp v).pc = s.pc := rfl
@[simp] theorem State.setSp_cc (s : State) (v : Word) : (s.setSp v).cc = s.cc := rfl
@[simp] theorem State.setSp_mode (s : State) (v : Word) : (s.setSp v).mode = s.mode := rfl
@[simp] theorem State.setSp_nmiPend (s : State) (v : Word) : (s.setSp v).nmiPend = s.nmiPend := rfl
@[simp] theorem State.setSp_rstPend (s : State) (v : Word) : (s.setSp v).rstPend = s.rstPend := rfl
@[simp] theorem State.setSp_irqLine (s : State) (v : Word) : (s.setSp v).irqLine = s.irqLine := rfl
@[simp] theorem State.setSp_nmiLine (s : State) (v : Word) : (s.setSp v).nmiLine = s.nmiLine := rfl
@[simp] theorem State.setSp_resetLine (s : State) (v : Word) : (s.setSp v).resetLine = s.resetLine := rfl
@[simp] theorem State.setSp_icount (s : State) (v : Word) : (s.setSp v).icount = s.icount := rfl
@[simp] theorem State.setSp_total (s : State) (v : Word) : (s.setSp v).total = s.total := rfl
@[simp] theorem State.setSp_tim (s : State) (v : Word) : (s.setSp v).tim = s.tim := rfl
@[simp] theorem State.setSp_sci (s : State) (v : Word) : (s.setSp v).sci = s.sci := rfl
@[simp] theorem State.setSp_mem (s : State) (v : Word) : (s.setSp v).mem = s.mem := rfl
@[simp] theorem State.setSp_devLog (s : State) (v : Word) : (s.setSp v).devLog = s.devLog := rfl
@[simp] theorem State.setSp_draws (s : State) (v : Word) : (s.setSp v).draws = s.draws := rfl

@[simp] theorem State.setPc_cfg (s : State) (v : Word) : (s.setPc v).cfg = s.cfg := rfl
@[simp] theorem State.setPc_a (s : State) (v : Word) : (s.setPc v).a = s.a := rfl
@[simp] theorem State.setPc_b (s : State) (v : Word) : (s.setPc v).b = s.b := rfl
@[simp] theorem State.setPc_x (s : State) (v : Word) : (s.setPc v).x = s.x := rfl
@[simp] theorem State.setPc_sp (s : State) (v : Word) : (s.setPc v).sp = s.sp := rfl
@[simp] theorem State.setPc_pc (s : State) (v : Word) : (s.setPc v).pc = v := rfl
@[simp] theorem State.setPc_cc (s : State) (v : Word) : (s.setPc v).cc = s.cc := rfl
@[simp] theorem State.setPc_mode (s : State) (v : Word) : (s.setPc v).mode = s.mode := rfl
@[simp] theorem State.setPc_nmiPend (s : State) (v : Word) : (s.setPc v).nmiPend = s.nmiPend := rfl
@[simp] theorem State.setPc_rstPend (s : State) (v : Word) : (s.setPc v).rstPend = s.rstPend := rfl
@[simp] theorem State.setPc_irqLine (s : State) (v : Word) : (s.setPc v).irqLine = s.irqLine := rfl
@[simp] theorem State.setPc_nmiLine (s : State) (v : Word) : (s.setPc v).nmiLine = s.nmiLine := rfl
@[simp] theorem State.setPc_resetLine (s : State) (v : Word) : (s.setPc v).resetLine = s.resetLine := rfl
@[simp] theorem State.setPc_icount (s : State) (v : Word) : (s.setPc v).icount = s.icount := rfl
@[simp] theorem State.setPc_total (s : State) (v : Word) : (s.setPc v).total = s.total := rfl
@[simp] theorem State.setPc_tim (s : State) (v : Word) : (s.setPc v).tim = s.tim := rfl
@[simp] theorem State.setPc_sci (s : State) (v : Word) : (s.setPc v).sci = s.sci := rfl
@[simp] theorem State.setPc_mem (s : State) (v : Word) : (s.setPc v).mem = s.mem := rfl
@[simp] theorem State.setPc_devLog (s : State) (v : Word) : (s.setPc v).devLog = s.devLog := rfl
@[simp] theorem State.setPc_draws (s : State) (v : Word) : (s.setPc v).draws = s.draws := rfl

@[simp] theorem State.setCc_cfg (s : State) (f : CC) : (s.setCc f).cfg = s.cfg := rfl
@[simp] theorem State.setCc_a (s : State) (f : CC) : (s.setCc f).a = s.a := rfl
@[simp] theorem State.setCc_b (s : State) (f : CC) : (s.setCc f).b = s.b := rfl
@[simp] theorem State.setCc_x (s : State) (f : CC) : (s.setCc f).x = s.x := rfl
@[simp] theorem State.setCc_sp (s : State) (f : CC) : (s.setCc f).sp = s.sp := rfl
@[simp] theorem State.setCc_pc (s : State) (f : CC) : (s.setCc f).pc = s.pc := rfl
@[simp] theorem State.setCc_cc (s : State) (f : CC) : (s.setCc f).cc = f := rfl
@[simp] theorem State.setCc_mode (s : State) (f : CC) : (s.setCc f).mode = s.mode := rfl
@[simp] theorem State.setCc_nmiPend (s : State) (f : CC) : (s.setCc f).nmiPend = s.nmiPend := rfl
@[simp] theorem State.setCc_rstPend (s : State) (f : CC) : (s.setCc f).rstPend = s.rstPend := rfl
@[simp] theorem State.setCc_irqLine (s : State) (f : CC) : (s.setCc f).irqLine = s.irqLine := rfl
@[simp] theorem State.setCc_nmiLine (s : State) (f : CC) : (s.setCc f).nmiLine = s.nmiLine := rfl
@[simp] theorem State.setCc_resetLine (s : State) (f : CC) : (s.setCc f).resetLine = s.resetLine := rfl
@[simp] theorem State.setCc_icount (s : State) (f : CC) : (s.setCc f).icount = s.icount := rfl
@[simp] theorem State.setCc_total (s : State) (f : CC) : (s.setCc f).total = s.total := rfl
@[simp] theorem State.setCc_tim (s : State) (f : CC) : (s.setCc f).tim = s.tim := rfl
@[simp] theorem State.setCc_sci (s : State) (f : CC) : (s.setCc f).sci = s.sci := rfl
@[simp] theorem State.setCc_mem (s : State) (f : CC) : (s.setCc f).mem = s.mem := rfl
@[simp] theorem State.setCc_devLog (s : State) (f : CC) : (s.setCc f).devLog = s.devLog := rfl
@[simp] theorem State.setCc_draws (s : State) (f : CC) : (s.setCc f).draws = s.draws := rfl

@[simp] theorem State.setMode_cfg (s : State) (m : Mode) : (s.setMode m).cfg = s.cfg := rfl
@[simp] theorem State.setMode_a (s : State) (m : Mode) : (s.setMode m).a = s.a := rfl
@[simp] theorem State.setMode_b (s : State) (m : Mode) : (s.setMode m).b = s.b := rfl
@[simp] theorem State.setMode_x (s : State) (m : Mode) : (s.setMode m).x = s.x := rfl
@[simp] theorem State.setMode_sp (s : State) (m : Mode) : (s.setMode m).sp = s.sp := rfl
@[simp] theorem State.setMode_pc (s : State) (m : Mode) : (s.setMode m).pc = s.pc := rfl
@[simp] theorem State.setMode_cc (s : State) (m : Mode) : (s.setMode m).cc = s.cc := rfl
@[simp] theorem State.setMode_mode (s : State) (m : Mode) : (s.setMode m).mode = m := rfl
@[simp] theorem State.setMode_nmiPend (s : State) (m : Mode) : (s.setMode m).nmiPend = s.nmiPend := rfl
@[simp] theorem State.setMode_rstPend (s : State) (m : Mode) : (s.setMode m).rstPend = s.rstPend := rfl
@[simp] theorem State.setMode_irqLine (s : State) (m : Mode) : (s.setMode m).irqLine = s.irqLine := rfl
@[simp] theorem State.setMode_nmiLine (s : State) (m : Mode) : (s.setMode m).nmiLine = s.nmiLine := rfl
@[simp] theorem State.setMode_resetLine (s : State) (m : Mode) : (s.setMode m).resetLine = s.resetLine := rfl
@[simp] theorem State.setMode_icount (s : State) (m : Mode) : (s.setMode m).icount = s.icount := rfl
@[simp] theorem State.setMode_total (s : State) (m : Mode) : (s.setMode m).total = s.total := rfl
@[simp] theorem State.setMode_tim (s : State) (m : Mode) : (s.setMode m).tim = s.tim := rfl
@[simp] theorem State.setMode_sci (s : State) (m : Mode) : (s.setMode m).sci = s.sci := rfl
@[simp] theorem State.setMode_mem (s : State) (m : Mode) : (s.setMode m).mem = s.mem := rfl
@[simp] theorem State.setMode_devLog (s : State) (m : Mode) : (s.setMode m).devLog = s.devLog := rfl
@[simp] theorem State.setMode_draws (s : State) (m : Mode) : (s.setMode m).draws = s.draws := rfl

@[simp] theorem State.charge_cfg (s : State) (c : Nat) : (s.charge c).cfg = s.cfg := rfl
@[simp] theorem State.charge_a (s : State) (c : Nat) : (s.charge c).a = s.a := rfl
@[simp] theorem State.charge_b (s : State) (c : Nat) : (s.charge c).b = s.b := rfl
@[simp] theorem State.charge_x (s : State) (c : Nat) : (s.charge c).x = s.x := rfl
@[simp] theorem State.charge_sp (s : State) (c : Nat) : (s.charge c).sp = s.sp := rfl
@[simp] theorem State.charge_pc (s : State) (c : Nat) : (s.charge c).pc = s.pc := rfl
@[simp] theorem State.charge_cc (s : State) (c : Nat) : (s.charge c).cc = s.cc := rfl
@[simp] theorem State.charge_mode (s : State) (c : Nat) : (s.charge c).mode = s.mode := rfl
@[simp] theorem State.charge_nmiPend (s : State) (c : Nat) : (s.charge c).nmiPend = s.nmiPend := rfl
@[simp] theorem State.charge_rstPend (s : State) (c : Nat) : (s.charge c).rstPend = s.rstPend := rfl
@[simp] theorem State.charge_irqLine (s : State) (c : Nat) : (s.charge c).irqLine = s.irqLine := rfl
@[simp] theorem State.charge_nmiLine (s : State) (c : Nat) : (s.charge c).nmiLine = s.nmiLine := rfl
@[simp] theorem State.charge_resetLine (s : State) (c : Nat) : (s.charge c).resetLine = s.resetLine := rfl
@[simp] theorem State.charge_icount (s : State) (c : Nat) : (s.charge c).icount = s.icount - c := rfl
@[simp] theorem State.charge_total (s : State) (c : Nat) : (s.charge c).total = s.total + c := rfl
@[simp] theorem State.charge_tim (s : State) (c : Nat) : (s.charge c).tim = s.tim := rfl
@[simp] theorem State.charge_sci (s : State) (c : Nat) : (s.charge c).sci = s.sci := rfl
@[simp] theorem State.charge_mem (s : State) (c : Nat) : (s.charge c).mem = s.mem := rfl
@[simp] theorem State.charge_devLog (s : State) (c : Nat) : (s.charge c).devLog = s.devLog := rfl
@[simp] theorem State.charge_draws (s : State) (c : Nat) : (s.charge c).draws = s.draws := rfl

@[simp] theorem State.setAcc_A_a (s : State) (v : Byte) : (s.setAcc .A v).a = v := rfl
@[simp] theorem State.setAcc_A_b (s : State) (v : Byte) : (s.setAcc .A v).b = s.b := rfl
@[simp] theorem State.setAcc_B_a (s : State) (v : Byte) : (s.setAcc .B v).a = s.a := rfl
@[simp] theorem State.setAcc_B_b (s : State) (v : Byte) : (s.setAcc .B v).b = v := rfl
@[simp] theorem State.acc_A (s : State) : s.acc .A = s.a := rfl
@[simp] theorem State.acc_B (s : State) : s.acc .B = s.b := rfl
@[simp] theorem State.setAcc_acc (s : State) (r : Acc) (v : Byte) : (s.setAcc r v).acc r = v := by cases r <;> rfl
@[simp] theorem State.setAcc_cfg (s : State) (r : Acc) (v : Byte) : (s.setAcc r v).cfg = s.cfg := by cases r <;> rfl
@[simp] theorem State.setAcc_x (s : State) (r : Acc) (v : Byte) : (s.setAcc r v).x = s.x := by cases r <;> rfl
@[simp] theorem State.setAcc_sp (s : State) (r : Acc) (v : Byte) : (s.setAcc r v).sp = s.sp := by cases r <;> rfl
@[simp] theorem State.setAcc_pc (s : State) (r : Acc) (v : Byte) : (s.setAcc r v).pc = s.pc := by cases r <;> rfl
@[simp] theorem State.setAcc_cc (s : State) (r : Acc) (v : Byte) : (s.setAcc r v).cc = s.cc := by cases r <;> rfl
@[simp] theorem State.setAcc_mode (s : State) (r : Acc) (v : Byte) : (s.setAcc r v).mode = s.mode := by cases r <;> rfl
@[simp] theorem State.setAcc_nmiPend (s : State) (r : Acc) (v : Byte) : (s.setAcc r v).nmiPend = s.nmiPend := by cases r <;> rfl
@[simp] theorem State.setAcc_rstPend (s : State) (r : Acc) (v : Byte) : (s.setAcc r v).rstPend = s.rstPend := by cases r <;> rfl
@[simp] theorem State.setAcc_irqLine (s : State) (r : Acc) (v : Byte) : (s.setAcc r v).irqLine = s.irqLine := by cases r <;> rfl
@[simp] theorem State.setAcc_nmiLine (s : State) (r : Acc) (v : Byte) : (s.setAcc r v).nmiLine = s.nmiLine := by cases r <;> rfl
@[simp] theorem State.setAcc_resetLine (s : State) (r : Acc) (v : Byte) : (s.setAcc r v).resetLine = s.resetLine := by cases r <;> rfl
@[simp] theorem State.setAcc_icount (s : State) (r : Acc) (v : Byte) : (s.setAcc r v).icount = s.icount := by cases r <;> rfl
@[simp] theorem State.setAcc_total (s : State) (r : Acc) (v : Byte) : (s.setAcc r v).total = s.total := by cases r <;> rfl
@[simp] theorem State.setAcc_tim (s : State) (r : Acc) (v : Byte) : (s.setAcc r v).tim = s.tim := by cases r <;> rfl
@[simp] theorem State.setAcc_sci (s : State) (r : Acc) (v : Byte) : (s.setAcc r v).sci = s.sci := by cases r <;> rfl
@[simp] theorem State.setAcc_mem (s : State) (r : Acc) (v : Byte) : (s.setAcc r v).mem = s.mem := by cases r <;> rfl
@[simp] theorem State.setAcc_devLog (s : State) (r : Acc) (v : Byte) : (s.setAcc r v).devLog = s.devLog := by cases r <;> rfl
@[simp] theorem State.setAcc_draws (s : State) (r : Acc) (v : Byte) : (s.setAcc r v).draws = s.draws := by cases r <;> rfl

@[simp] theorem State.extWrite_cfg (s : State) (addr : Word) (v : Byte) : (s.extWrite addr v).cfg = s.cfg := by
  unfold State.extWrite; split <;> rfl
@[simp] theorem State.extWrite_a (s : State) (addr : Word) (v : Byte) : (s.extWrite addr v).a = s.a := by
  unfold State.extWrite; split <;> rfl
@[simp] theorem State.extWrite_b (s : State) (addr : Word) (v : Byte) : (s.extWrite addr v).b = s.b := by
  unfold State.extWrite; split <;> rfl
@[simp] theorem State.extWrite_x (s : State) (addr : Word) (v : Byte) : (s.extWrite addr v).x = s.x := by
  unfold State.extWrite; split <;> rfl
@[simp] theorem State.extWrite_sp (s : State) (addr : Word) (v : Byte) : (s.extWrite addr v).sp = s.sp := by
  unfold State.extWrite; split <;> rfl
@[simp] theorem State.extWrite_pc (s : State) (addr : Word) (v : Byte) : (s.extWrite addr v).pc = s.pc := by
  unfold State.extWrite; split <;> rfl
@[simp] theorem State.extWrite_cc (s : State) (addr : Word) (v : Byte) : (s.extWrite addr v).cc = s.cc := by
  unfold State.extWrite; split <;> rfl
@[simp] theorem State.extWrite_mode (s : State) (addr : Word) (v : Byte) : (s.extWrite addr v).mode = s.mode := by
  unfold State.extWrite; split <;> rfl
@[simp] theorem State.extWrite_nmiPend (s : State) (addr : Word) (v : Byte) : (s.extWrite addr v).nmiPend = s.nmiPend := by
  unfold State.extWrite; split <;> rfl
@[simp] theorem State.extWrite_rstPend (s : State) (addr : Word) (v : Byte) : (s.extWrite addr v).rstPend = s.rstPend := by
  unfold State.extWrite; split <;> rfl
@[simp] theorem State.extWrite_irqLine (s : State) (addr : Word) (v : Byte) : (s.extWrite addr v).irqLine = s.irqLine := by
  unfold State.extWrite; split <;> rfl
@[simp] theorem State.extWrite_nmiLine (s : State) (addr : Word) (v : Byte) : (s.extWrite addr v).nmiLine = s.nmiLine := by
  unfold State.extWrite; split <;> rfl
@[simp] theorem State.extWrite_resetLine (s : State) (addr : Word) (v : Byte) : (s.extWrite addr v).resetLine = s.resetLine := by
  unfold State.extWrite; split <;> rfl
@[simp] theorem State.extWrite_icount (s : State) (addr : Word) (v : Byte) : (s.extWrite addr v).icount = s.icount := by
  unfold State.extWrite; split <;> rfl
@[simp] theorem State.extWrite_total (s : State) (addr : Word) (v : Byte) : (s.extWrite addr v).total = s.total := by
  unfold State.extWrite; split <;> rfl
@[simp] theorem State.extWrite_tim (s : State) (addr : Word) (v : Byte) : (s.extWrite addr v).tim = s.tim := by
  unfold State.extWrite; split <;> rfl
@[simp] theorem State.extWrite_sci (s : State) (addr : Word) (v : Byte) : (s.extWrite addr v).sci = s.sci := by
  unfold State.extWrite; split <;> rfl
@[simp] theorem State.extWrite_draws (s : State) (addr : Word) (v : Byte) : (s.extWrite addr v).draws = s.draws := by
  unfold State.extWrite; split <;> rfl

@[simp] theorem State.logDevice_cfg (s : State) (addr : Word) (w : Option Byte) : (s.logDevice addr w).cfg = s.cfg := by rfl
@[simp] theorem State.logDevice_a (s : State) (addr : Word) (w : Option Byte) : (s.logDevice addr w).a = s.a := by rfl
@[simp] theorem State.logDevice_b (s : State) (addr : Word) (w : Option Byte) : (s.logDevice addr w).b = s.b := by rfl
@[simp] theorem State.logDevice_x (s : State) (addr : Word) (w : Option Byte) : (s.logDevice addr w).x = s.x := by rfl
@[simp] theorem State.logDevice_sp (s : State) (addr : Word) (w : Option Byte) : (s.logDevice addr w).sp = s.sp := by rfl
@[simp] theorem State.logDevice_pc (s : State) (addr : Word) (w : Option Byte) : (s.logDevice addr w).pc = s.pc := by rfl
@[simp] theorem State.logDevice_cc (s : State) (addr : Word) (w : Option Byte) : (s.logDevice addr w).cc = s.cc := by rfl
@[simp] theorem State.logDevice_mode (s : State) (addr : Word) (w : Option Byte) : (s.logDevice addr w).mode = s.mode := by rfl
@[simp] theorem State.logDevice_nmiPend (s : State) (addr : Word) (w : Option Byte) : (s.logDevice addr w).nmiPend = s.nmiPend := by rfl
@[simp] theorem State.logDevice_rstPend (s : State) (addr : Word) (w : Option Byte) : (s.logDevice addr w).rstPend = s.rstPend := by rfl
@[simp] theorem State.logDevice_irqLine (s : State) (addr : Word) (w : Option Byte) : (s.logDevice addr w).irqLine = s.irqLine := by rfl
@[simp] theorem State.logDevice_nmiLine (s : State) (addr : Word) (w : Option Byte) : (s.logDevice addr w).nmiLine = s.nmiLine := by rfl
@[simp] theorem State.logDevice_resetLine (s : State) (addr : Word) (w : Option Byte) : (s.logDevice addr w).resetLine = s.resetLine := by rfl
@[simp] theorem State.logDevice_icount (s : State) (addr : Word) (w : Option Byte) : (s.logDevice addr w).icount = s.icount := by rfl
@[simp] theorem State.logDevice_total (s : State) (addr : Word) (w : Option Byte) : (s.logDevice addr w).total = s.total := by rfl
@[simp] theorem State.logDevice_tim (s : State) (addr : Word) (w : Option Byte) : (s.logDevice addr w).tim = s.tim := by rfl
@[simp] theorem State.logDevice_sci (s : State) (addr : Word) (w : Option Byte) : (s.logDevice addr w).sci = s.sci := by rfl
@[simp] theorem State.logDevice_mem (s : State) (addr : Word) (w : Option Byte) : (s.logDevice addr w).mem = s.mem := by rfl
@[simp] theorem State.logDevice_draws (s : State) (addr : Word) (w : Option Byte) : (s.logDevice addr w).draws = s.draws := by rfl

@[simp] theorem State.extReadEffect_cfg (s : State) (addr : Word) : (s.extReadEffect addr).cfg = s.cfg := by
  unfold State.extReadEffect; split <;> rfl
@[simp] theorem State.extReadEffect_a (s : State) (addr : Word) : (s.extReadEffect addr).a = s.a := by
  unfold State.extReadEffect; split <;> rfl
@[simp] theorem State.extReadEffect_b (s : State) (addr : Word) : (s.extReadEffect addr).b = s.b := by
  unfold State.extReadEffect; split <;> rfl
@[simp] theorem State.extReadEffect_x (s : State) (addr : Word) : (s.extReadEffect addr).x = s.x := by
  unfold State.extReadEffect; split <;> rfl
@[simp] theorem State.extReadEffect_sp (s : State) (addr : Word) : (s.extReadEffect addr).sp = s.sp := by
  unfold State.extReadEffect; split <;> rfl
@[simp] theorem State.extReadEffect_pc (s : State) (addr : Word) : (s.extReadEffect addr).pc = s.pc := by
  unfold State.extReadEffect; split <;> rfl
@[simp] theorem State.extReadEffect_cc (s : State) (addr : Word) : (s.extReadEffect addr).cc = s.cc := by
  unfold State.extReadEffect; split <;> rfl
@[simp] theorem State.extReadEffect_mode (s : State) (addr : Word) : (s.extReadEffect addr).mode = s.mode := by
  unfold State.extReadEffect; split <;> rfl
@[simp] theorem State.extReadEffect_nmiPend (s : State) (addr : Word) : (s.extReadEffect addr).nmiPend = s.nmiPend := by
  unfold State.extReadEffect; split <;> rfl
@[simp] theorem State.extReadEffect_rstPend (s : State) (addr : Word) : (s.extReadEffect addr).rstPend = s.rstPend := by
  unfold State.extReadEffect; split <;> rfl
@[simp] theorem State.extReadEffect_irqLine (s : State) (addr : Word) : (s.extReadEffect addr).irqLine = s.irqLine := by
  unfold State.extReadEffect; split <;> rfl
@[simp] theorem State.extReadEffect_nmiLine (s : State) (addr : Word) : (s.extReadEffect addr).nmiLine = s.nmiLine := by
  unfold State.extReadEffect; split <;> rfl
@[simp] theorem State.extReadEffect_resetLine (s : State) (addr : Word) : (s.extReadEffect addr).resetLine = s.resetLine := by
  unfold State.extReadEffect; split <;> rfl
@[simp] theorem State.extReadEffect_icount (s : State) (addr : Word) : (s.extReadEffect addr).icount = s.icount := by
  unfold State.extReadEffect; split <;> rfl
@[simp] theorem State.extReadEffect_total (s : State) (addr : Word) : (s.extReadEffect addr).total = s.total := by
  unfold State.extReadEffect; split <;> rfl
@[simp] theorem State.extReadEffect_tim (s : State) (addr : Word) : (s.extReadEffect addr).tim = s.tim := by
  unfold State.extReadEffect; split <;> rfl
@[simp] theorem State.extReadEffect_sci (s : State) (addr : Word) : (s.extReadEffect addr).sci = s.sci := by
  unfold State.extReadEffect; split <;> rfl
@[simp] theorem State.extReadEffect_mem (s : State) (addr : Word) : (s.extReadEffect addr).mem = s.mem := by
  unfold State.extReadEffect; split <;> rfl
@[simp] theorem State.extReadEffect_draws (s : State) (addr : Word) : (s.extReadEffect addr).draws = s.draws := by
  unfold State.extReadEffect; split <;> rfl

@[simp] theorem State.windowWrite_cfg (s : State) (r : WindowReg) (v : Byte) : (s.windowWrite r v).cfg = s.cfg := by cases r <;> rfl
@[simp] theorem State.windowWrite_a (s : State) (r : WindowReg) (v : Byte) : (s.windowWrite r v).a = s.a := by cases r <;> rfl
@[simp] theorem State.windowWrite_b (s : State) (r : WindowReg) (v : Byte) : (s.windowWrite r v).b = s.b := by cases r <;> rfl
@[simp] theorem State.windowWrite_x (s : State) (r : WindowReg) (v : Byte) : (s.windowWrite r v).x = s.x := by cases r <;> rfl
@[simp] theorem State.windowWrite_sp (s : State) (r : WindowReg) (v : Byte) : (s.windowWrite r v).sp = s.sp := by cases r <;> rfl
@[simp] theorem State.windowWrite_pc (s : State) (r : WindowReg) (v : Byte) : (s.windowWrite r v).pc = s.pc := by cases r <;> rfl
@[simp] theorem State.windowWrite_cc (s : State) (r : WindowReg) (v : Byte) : (s.windowWrite r v).cc = s.cc := by cases r <;> rfl
@[simp] theorem State.windowWrite_mode (s : State) (r : WindowReg) (v : Byte) : (s.windowWrite r v).mode = s.mode := by cases r <;> rfl
@[simp] theorem State.windowWrite_nmiPend (s : State) (r : WindowReg) (v : Byte) : (s.windowWrite r v).nmiPend = s.nmiPend := by cases r <;> rfl
@[simp] theorem State.windowWrite_rstPend (s : State) (r : WindowReg) (v : Byte) : (s.windowWrite r v).rstPend = s.rstPend := by cases r <;> rfl
@[simp] theorem State.windowWrite_irqLine (s : State) (r : WindowReg) (v : Byte) : (s.windowWrite r v).irqLine = s.irqLine := by cases r <;> rfl
@[simp] theorem State.windowWrite_nmiLine (s : State) (r : WindowReg) (v : Byte) : (s.windowWrite r v).nmiLine = s.nmiLine := by cases r <;> rfl
@[simp] theorem State.windowWrite_resetLine (s : State) (r : WindowReg) (v : Byte) : (s.windowWrite r v).resetLine = s.resetLine := by cases r <;> rfl
@[simp] theorem State.windowWrite_icount (s : State) (r : WindowReg) (v : Byte) : (s.windowWrite r v).icount = s.icount := by cases r <;> rfl
@[simp] theorem State.windowWrite_total (s : State) (r : WindowReg) (v : Byte) : (s.windowWrite r v).total = s.total := by cases r <;> rfl
@[simp] theorem State.windowWrite_mem (s : State) (r : WindowReg) (v : Byte) : (s.windowWrite r v).mem = s.mem := by cases r <;> rfl
@[simp] theorem State.windowWrite_devLog (s : State) (r : WindowReg) (v : Byte) : (s.windowWrite r v).devLog = s.devLog := by cases r <;> rfl
@[simp] theorem State.windowWrite_draws (s : State) (r : WindowReg) (v : Byte) : (s.windowWrite r v).draws = s.draws := by cases r <;> rfl

@[simp] theorem State.windowReadEffect_cfg (s : State) (r : WindowReg) : (s.windowReadEffect r).cfg = s.cfg := by
  cases r <;> simp only [State.windowReadEffect]; split <;> rfl
@[simp] theorem State.windowReadEffect_a (s : State) (r : WindowReg) : (s.windowReadEffect r).a = s.a := by
  cases r <;> simp only [State.windowReadEffect]; split <;> rfl
@[simp] theorem State.windowReadEffect_b (s : State) (r : WindowReg) : (s.windowReadEffect r).b = s.b := by
  cases r <;> simp only [State.windowReadEffect]; split <;> rfl
@[simp] theorem State.windowReadEffect_x (s : State) (r : WindowReg) : (s.windowReadEffect r).x = s.x := by
  cases r <;> simp only [State.windowReadEffect]; split <;> rfl
@[simp] theorem State.windowReadEffect_sp (s : State) (r : WindowReg) : (s.windowReadEffect r).sp = s.sp := by
  cases r <;> simp only [State.windowReadEffect]; split <;> rfl
@[simp] theorem State.windowReadEffect_pc (s : State) (r : WindowReg) : (s.windowReadEffect r).pc = s.pc := by
  cases r <;> simp only [State.windowReadEffect]; split <;> rfl
@[simp] theorem State.windowReadEffect_cc (s : State) (r : WindowReg) : (s.windowReadEffect r).cc = s.cc := by
  cases r <;> simp only [State.windowReadEffect]; split <;> rfl
@[simp] theorem State.windowReadEffect_mode (s : State) (r : WindowReg) : (s.windowReadEffect r).mode = s.mode := by
  cases r <;> simp only [State.windowReadEffect]; split <;> rfl
@[simp] theorem State.windowReadEffect_nmiPend (s : State) (r : WindowReg) : (s.windowReadEffect r).nmiPend = s.nmiPend := by
  cases r <;> simp only [State.windowReadEffect]; split <;> rfl
@[simp] theorem State.windowReadEffect_rstPend (s : State) (r : WindowReg) : (s.windowReadEffect r).rstPend = s.rstPend := by
  cases r <;> simp only [State.windowReadEffect]; split <;> rfl
@[simp] theorem State.windowReadEffect_irqLine (s : State) (r : WindowReg) : (s.windowReadEffect r).irqLine = s.irqLine := by
  cases r <;> simp only [State.windowReadEffect]; split <;> rfl
@[simp] theorem State.windowReadEffect_nmiLine (s : State) (r : WindowReg) : (s.windowReadEffect r).nmiLine = s.nmiLine := by
  cases r <;> simp only [State.windowReadEffect]; split <;> rfl
@[simp] theorem State.windowReadEffect_resetLine (s : State) (r : WindowReg) : (s.windowReadEffect r).resetLine = s.resetLine := by
  cases r <;> simp only [State.windowReadEffect]; split <;> rfl
@[simp] theorem State.windowReadEffect_icount (s : State) (r : WindowReg) : (s.windowReadEffect r).icount = s.icount := by
  cases r <;> simp only [State.windowReadEffect]; split <;> rfl
@[simp] theorem State.windowReadEffect_total (s : State) (r : WindowReg) : (s.windowReadEffect r).total = s.total := by
  cases r <;> simp only [State.windowReadEffect]; split <;> rfl
@[simp] theorem State.windowReadEffect_mem (s : State) (r : WindowReg) : (s.windowReadEffect r).mem = s.mem := by
  cases r <;> simp only [State.windowReadEffect]; split <;> rfl
@[simp] theorem State.windowReadEffect_devLog (s : State) (r : WindowReg) : (s.windowReadEffect r).devLog = s.devLog := by
  cases r <;> simp only [State.windowReadEffect]; split <;> rfl
@[simp] theorem State.windowReadEffect_draws (s : State) (r : WindowReg) : (s.windowReadEffect r).draws = s.draws := by
  cases r <;> simp only [State.windowReadEffect]; split <;> rfl

@[simp] theorem State.readEffect_cfg (s : State) (addr : Word) : (s.readEffect addr).cfg = s.cfg := by
  unfold State.readEffect; split <;> simp
@[simp] theorem State.readEffect_a (s : State) (addr : Word) : (s.readEffect addr).a = s.a := by
  unfold State.readEffect; split <;> simp
@[simp] theorem State.readEffect_b (s : State) (addr : Word) : (s.readEffect addr).b = s.b := by
  unfold State.readEffect; split <;> simp
@[simp] theorem State.readEffect_x (s : State) (addr : Word) : (s.readEffect addr).x = s.x := by
  unfold State.readEffect; split <;> simp
@[simp] theorem State.readEffect_sp (s : State) (addr : Word) : (s.readEffect addr).sp = s.sp := by
  unfold State.readEffect; split <;> simp
@[simp] theorem State.readEffect_pc (s : State) (addr : Word) : (s.readEffect addr).pc = s.pc := by
  unfold State.readEffect; split <;> simp
@[simp] theorem State.readEffect_cc (s : State) (addr : Word) : (s.readEffect addr).cc = s.cc := by
  unfold State.readEffect; split <;> simp
@[simp] theorem State.readEffect_mode (s : State) (addr : Word) : (s.readEffect addr).mode = s.mode := by
  unfold State.readEffect; split <;> simp
@[simp] theorem State.readEffect_nmiPend (s : State) (addr : Word) : (s.readEffect addr).nmiPend = s.nmiPend := by
  unfold State.readEffect; split <;> simp
@[simp] theorem State.readEffect_rstPend (s : State) (addr : Word) : (s.readEffect addr).rstPend = s.rstPend := by
  unfold State.readEffect; split <;> simp
@[simp] theorem State.readEffect_irqLine (s : State) (addr : Word) : (s.readEffect addr).irqLine = s.irqLine := by
  unfold State.readEffect; split <;> simp
@[simp] theorem State.readEffect_nmiLine (s : State) (addr : Word) : (s.readEffect addr).nmiLine = s.nmiLine := by
  unfold State.readEffect; split <;> simp
@[simp] theorem State.readEffect_resetLine (s : State) (addr : Word) : (s.readEffect addr).resetLine = s.resetLine := by
  unfold State.readEffect; split <;> simp
@[simp] theorem State.readEffect_icount (s : State) (addr : Word) : (s.readEffect addr).icount = s.icount := by
  unfold State.readEffect; split <;> simp
@[simp] theorem State.readEffect_total (s : State) (addr : Word) : (s.readEffect addr).total = s.total := by
  unfold State.readEffect; split <;> simp
@[simp] theorem State.readEffect_mem (s : State) (addr : Word) : (s.readEffect addr).mem = s.mem := by
  unfold State.readEffect; split <;> simp
@[simp] theorem State.readEffect_draws (s : State) (addr : Word) : (s.readEffect addr).draws = s.draws := by
  unfold State.readEffect; split <;> simp

@[simp] theorem State.write8_cfg (s : State) (addr : Word) (v : Byte) : (s.write8 addr v).cfg = s.cfg := by
  unfold State.write8; split <;> simp
@[simp] theorem State.write8_a (s : State) (addr : Word) (v : Byte) : (s.write8 addr v).a = s.a := by
  unfold State.write8; split <;> simp
@[simp] theorem State.write8_b (s : State) (addr : Word) (v : Byte) : (s.write8 addr v).b = s.b := by
  unfold State.write8; split <;> simp
@[simp] theorem State.write8_x (s : State) (addr : Word) (v : Byte) : (s.write8 addr v).x = s.x := by
  unfold State.write8; split <;> simp
@[simp] theorem State.write8_sp (s : State) (addr : Word) (v : Byte) : (s.write8 addr v).sp = s.sp := by
  unfold State.write8; split <;> simp
@[simp] theorem State.write8_pc (s : State) (addr : Word) (v : Byte) : (s.write8 addr v).pc = s.pc := by
  unfold State.write8; split <;> simp
@[simp] theorem State.write8_cc (s : State) (addr : Word) (v : Byte) : (s.write8 addr v).cc = s.cc := by
  unfold State.write8; split <;> simp
@[simp] theorem State.write8_mode (s : State) (addr : Word) (v : Byte) : (s.write8 addr v).mode = s.mode := by
  unfold State.write8; split <;> simp
@[simp] theorem State.write8_nmiPend (s : State) (addr : Word) (v : Byte) : (s.write8 addr v).nmiPend = s.nmiPend := by
  unfold State.write8; split <;> simp
@[simp] theorem State.write8_rstPend (s : State) (addr : Word) (v : Byte) : (s.write8 addr v).rstPend = s.rstPend := by
  unfold State.write8; split <;> simp
@[simp] theorem State.write8_irqLine (s : State) (addr : Word) (v : Byte) : (s.write8 addr v).irqLine = s.irqLine := by
  unfold State.write8; split <;> simp
@[simp] theorem State.write8_nmiLine (s : State) (addr : Word) (v : Byte) : (s.write8 addr v).nmiLine = s.nmiLine := by
  unfold State.write8; split <;> simp
@[simp] theorem State.write8_resetLine (s : State) (addr : Word) (v : Byte) : (s.write8 addr v).resetLine = s.resetLine := by
  unfold State.write8; split <;> simp
@[simp] theorem State.write8_icount (s : State) (addr : Word) (v : Byte) : (s.write8 addr v).icount = s.icount := by
  unfold State.write8; split <;> simp
@[simp] theorem State.write8_total (s : State) (addr : Word) (v : Byte) : (s.write8 addr v).total = s.total := by
  unfold State.write8; split <;> simp
@[simp] theorem State.write8_draws (s : State) (addr : Word) (v : Byte) : (s.write8 addr v).draws = s.draws := by
  unfold State.write8; split <;> simp

@[simp] theorem State.read8_cfg (s : State) (addr : Word) : ((s.read8 addr).2).cfg = s.cfg := by simp [State.read8]
@[simp] theorem State.read8_a (s : State) (addr : Word) : ((s.read8 addr).2).a = s.a := by simp [State.read8]
@[simp] theorem State.read8_b (s : State) (addr : Word) : ((s.read8 addr).2).b = s.b := by simp [State.read8]
@[simp] theorem State.read8_x (s : State) (addr : Word) : ((s.read8 addr).2).x = s.x := by simp [State.read8]
@[simp] theorem State.read8_sp (s : State) (addr : Word) : ((s.read8 addr).2).sp = s.sp := by simp [State.read8]
@[simp] theorem State.read8_pc (s : State) (addr : Word) : ((s.read8 addr).2).pc = s.pc := by simp [State.read8]
@[simp] theorem State.read8_cc (s : State) (addr : Word) : ((s.read8 addr).2).cc = s.cc := by simp [State.read8]
@[simp] theorem State.read8_mode (s : State) (addr : Word) : ((s.read8 addr).2).mode = s.mode := by simp [State.read8]
@[simp] theorem State.read8_nmiPend (s : State) (addr : Word) : ((s.read8 addr).2).nmiPend = s.nmiPend := by simp [State.read8]
@[simp] theorem State.read8_rstPend (s : State) (addr : Word) : ((s.read8 addr).2).rstPend = s.rstPend := by simp [State.read8]
@[simp] theorem State.read8_irqLine (s : State) (addr : Word) : ((s.read8 addr).2).irqLine = s.irqLine := by simp [State.read8]
@[simp] theorem State.read8_nmiLine (s : State) (addr : Word) : ((s.read8 addr).2).nmiLine = s.nmiLine := by simp [State.read8]
@[simp] theorem State.read8_resetLine (s : State) (addr : Word) : ((s.read8 addr).2).resetLine = s.resetLine := by simp [State.read8]
@[simp] theorem State.read8_icount (s : State) (addr : Word) : ((s.read8 addr).2).icount = s.icount := by simp [State.read8]
@[simp] theorem State.read8_total (s : State) (addr : Word) : ((s.read8 addr).2).total = s.total := by simp [State.read8]
@[simp] theorem State.read8_mem (s : State) (addr : Word) : ((s.read8 addr).2).mem = s.mem := by simp [State.read8]
@[simp] theorem State.read8_draws (s : State) (addr : Word) : ((s.read8 addr).2).draws = s.draws := by simp [State.read8]

@[simp] theorem State.read16_cfg (s : State) (addr : Word) : ((s.read16 addr).2).cfg = s.cfg := by simp [State.read16]
@[simp] theorem State.read16_a (s : State) (addr : Word) : ((s.read16 addr).2).a = s.a := by simp [State.read16]
@[simp] theorem State.read16_b (s : State) (addr : Word) : ((s.read16 addr).2).b = s.b := by simp [State.read16]
@[simp] theorem State.read16_x (s : State) (addr : Word) : ((s.read16 addr).2).x = s.x := by simp [State.read16]
@[simp] theorem State.read16_sp (s : State) (addr : Word) : ((s.read16 addr).2).sp = s.sp := by simp [State.read16]
@[simp] theorem State.read16_pc (s : State) (addr : Word) : ((s.read16 addr).2).pc = s.pc := by simp [State.read16]
@[simp] theorem State.read16_cc (s : State) (addr : Word) : ((s.read16 addr).2).cc = s.cc := by simp [State.read16]
@[simp] theorem State.read16_mode (s : State) (addr : Word) : ((s.read16 addr).2).mode = s.mode := by simp [State.read16]
@[simp] theorem State.read16_nmiPend (s : State) (addr : Word) : ((s.read16 addr).2).nmiPend = s.nmiPend := by simp [State.read16]
@[simp] theorem State.read16_rstPend (s : State) (addr : Word) : ((s.read16 addr).2).rstPend = s.rstPend := by simp [State.read16]
@[simp] theorem State.read16_irqLine (s : State) (addr : Word) : ((s.read16 addr).2).irqLine = s.irqLine := by simp [State.read16]
@[simp] theorem State.read16_nmiLine (s : State) (addr : Word) : ((s.read16 addr).2).nmiLine = s.nmiLine := by simp [State.read16]
@[simp] theorem State.read16_resetLine (s : State) (addr : Word) : ((s.read16 addr).2).resetLine = s.resetLine := by simp [State.read16]
@[simp] theorem State.read16_icount (s : State) (addr : Word) : ((s.read16 addr).2).icount = s.icount := by simp [State.read16]
@[simp] theorem State.read16_total (s : State) (addr : Word) : ((s.read16 addr).2).total = s.total := by simp [State.read16]
@[simp] theorem State.read16_mem (s : State) (addr : Word) : ((s.read16 addr).2).mem = s.mem := by simp [State.read16]
@[simp] theorem State.read16_draws (s : State) (addr : Word) : ((s.read16 addr).2).draws = s.draws := by simp [State.read16]

@[simp] theorem State.write16_cfg (s : State) (addr v : Word) : (s.write16 addr v).cfg = s.cfg := by simp [State.write16]
@[simp] theorem State.write16_a (s : State) (addr v : Word) : (s.write16 addr v).a = s.a := by simp [State.write16]
@[simp] theorem State.write16_b (s : State) (addr v : Word) : (s.write16 addr v).b = s.b := by simp [State.write16]
@[simp] theorem State.write16_x (s : State) (addr v : Word) : (s.write16 addr v).x = s.x := by simp [State.write16]
@[simp] theorem State.write16_sp (s : State) (addr v : Word) : (s.write16 addr v).sp = s.sp := by simp [State.write16]
@[simp] theorem State.write16_pc (s : State) (addr v : Word) : (s.write16 addr v).pc = s.pc := by simp [State.write16]
@[simp] theorem State.write16_cc (s : State) (addr v : Word) : (s.write16 addr v).cc = s.cc := by simp [State.write16]
@[simp] theorem State.write16_mode (s : State) (addr v : Word) : (s.write16 addr v).mode = s.mode := by simp [State.write16]
@[simp] theorem State.write16_nmiPend (s : State) (addr v : Word) : (s.write16 addr v).nmiPend = s.nmiPend := by simp [State.write16]
@[simp] theorem State.write16_rstPend (s : State) (addr v : Word) : (s.write16 addr v).rstPend = s.rstPend := by simp [State.write16]
@[simp] theorem State.write16_irqLine (s : State) (addr v : Word) : (s.write16 addr v).irqLine = s.irqLine := by simp [State.write16]
@[simp] theorem State.write16_nmiLine (s : State) (addr v : Word) : (s.write16 addr v).nmiLine = s.nmiLine := by simp [State.write16]
@[simp] theorem State.write16_resetLine (s : State) (addr v : Word) : (s.write16 addr v).resetLine = s.resetLine := by simp [State.write16]
@[simp] theorem State.write16_icount (s : State) (addr v : Word) : (s.write16 addr v).icount = s.icount := by simp [State.write16]
@[simp] theorem State.write16_total (s : State) (addr v : Word) : (s.write16 addr v).total = s.total := by simp [State.write16]
@[simp] theorem State.write16_draws (s : State) (addr v : Word) : (s.write16 addr v).draws = s.draws := by simp [State.write16]

@[simp] theorem State.push8_cfg (s : State) (v : Byte) : (s.push8 v).cfg = s.cfg := by simp [State.push8]
@[simp] theorem State.push8_a (s : State) (v : Byte) : (s.push8 v).a = s.a := by simp [State.push8]
@[simp] theorem State.push8_b (s : State) (v : Byte) : (s.push8 v).b = s.b := by simp [State.push8]
@[simp] theorem State.push8_x (s : State) (v : Byte) : (s.push8 v).x = s.x := by simp [State.push8]
@[simp] theorem State.push8_pc (s : State) (v : Byte) : (s.push8 v).pc = s.pc := by simp [State.push8]
@[simp] theorem State.push8_cc (s : State) (v : Byte) : (s.push8 v).cc = s.cc := by simp [State.push8]
@[simp] theorem State.push8_mode (s : State) (v : Byte) : (s.push8 v).mode = s.mode := by simp [State.push8]
@[simp] theorem State.push8_nmiPend (s : State) (v : Byte) : (s.push8 v).nmiPend = s.nmiPend := by simp [State.push8]
@[simp] theorem State.push8_rstPend (s : State) (v : Byte) : (s.push8 v).rstPend = s.rstPend := by simp [State.push8]
@[simp] theorem State.push8_irqLine (s : State) (v : Byte) : (s.push8 v).irqLine = s.irqLine := by simp [State.push8]
@[simp] theorem State.push8_nmiLine (s : State) (v : Byte) : (s.push8 v).nmiLine = s.nmiLine := by simp [State.push8]
@[simp] theorem State.push8_resetLine (s : State) (v : Byte) : (s.push8 v).resetLine = s.resetLine := by simp [State.push8]
@[simp] theorem State.push8_icount (s : State) (v : Byte) : (s.push8 v).icount = s.icount := by simp [State.push8]
@[simp] theorem State.push8_total (s : State) (v : Byte) : (s.push8 v).total = s.total := by simp [State.push8]
@[simp] theorem State.push8_draws (s : State) (v : Byte) : (s.push8 v).draws = s.draws := by simp [State.push8]

@[simp] theorem State.pull8_cfg (s : State) : (s.pull8.2).cfg = s.cfg := by simp [State.pull8]
@[simp] theorem State.pull8_a (s : State) : (s.pull8.2).a = s.a := by simp [State.pull8]
@[simp] theorem State.pull8_b (s : State) : (s.pull8.2).b = s.b := by simp [State.pull8]
@[simp] theorem State.pull8_x (s : State) : (s.pull8.2).x = s.x := by simp [State.pull8]
@[simp] theorem State.pull8_pc (s : State) : (s.pull8.2).pc = s.pc := by simp [State.pull8]
@[simp] theorem State.pull8_cc (s : State) : (s.pull8.2).cc = s.cc := by simp [State.pull8]
@[simp] theorem State.pull8_mode (s : State) : (s.pull8.2).mode = s.mode := by simp [State.pull8]
@[simp] theorem State.pull8_nmiPend (s : State) : (s.pull8.2).nmiPend = s.nmiPend := by simp [State.pull8]
@[simp] theorem State.pull8_rstPend (s : State) : (s.pull8.2).rstPend = s.rstPend := by simp [State.pull8]
@[simp] theorem State.pull8_irqLine (s : State) : (s.pull8.2).irqLine = s.irqLine := by simp [State.pull8]
@[simp] theorem State.pull8_nmiLine (s : State) : (s.pull8.2).nmiLine = s.nmiLine := by simp [State.pull8]
@[simp] theorem State.pull8_resetLine (s : State) : (s.pull8.2).resetLine = s.resetLine := by simp [State.pull8]
@[simp] theorem State.pull8_icount (s : State) : (s.pull8.2).icount = s.icount := by simp [State.pull8]
@[simp] theorem State.pull8_total (s : State) : (s.pull8.2).total = s.total := by simp [State.pull8]
@[simp] theorem State.pull8_mem (s : State) : (s.pull8.2).mem = s.mem := by simp [State.pull8]
@[simp] theorem State.pull8_draws (s : State) : (s.pull8.2).draws = s.draws := by simp [State.pull8]

@[simp] theorem State.push16_cfg (s : State) (v : Word) : (s.push16 v).cfg = s.cfg := by simp [State.push16]
@[simp] theorem State.push16_a (s : State) (v : Word) : (s.push16 v).a = s.a := by simp [State.push16]
@[simp] theorem State.push16_b (s : State) (v : Word) : (s.push16 v).b = s.b := by simp [State.push16]
@[simp] theorem State.push16_x (s : State) (v : Word) : (s.push16 v).x = s.x := by simp [State.push16]
@[simp] theorem State.push16_pc (s : State) (v : Word) : (s.push16 v).pc = s.pc := by simp [State.push16]
@[simp] theorem State.push16_cc (s : State) (v : Word) : (s.push16 v).cc = s.cc := by simp [State.push16]
@[simp] theorem State.push16_mode (s : State) (v : Word) : (s.push16 v).mode = s.mode := by simp [State.push16]
@[simp] theorem State.push16_nmiPend (s : State) (v : Word) : (s.push16 v).nmiPend = s.nmiPend := by simp [State.push16]
@[simp] theorem State.push16_rstPend (s : State) (v : Word) : (s.push16 v).rstPend = s.rstPend := by simp [State.push16]
@[simp] theorem State.push16_irqLine (s : State) (v : Word) : (s.push16 v).irqLine = s.irqLine := by simp [State.push16]
@[simp] theorem State.push16_nmiLine (s : State) (v : Word) : (s.push16 v).nmiLine = s.nmiLine := by simp [State.push16]
@[simp] theorem State.push16_resetLine (s : State) (v : Word) : (s.push16 v).resetLine = s.resetLine := by simp [State.push16]
@[simp] theorem State.push16_icount (s : State) (v : Word) : (s.push16 v).icount = s.icount := by simp [State.push16]
@[simp] theorem State.push16_total (s : State) (v : Word) : (s.push16 v).total = s.total := by simp [State.push16]
@[simp] theorem State.push16_draws (s : State) (v : Word) : (s.push16 v).draws = s.draws := by simp [State.push16]

@[simp] theorem State.pull16_cfg (s : State) : (s.pull16.2).cfg = s.cfg := by simp [State.pull16]
@[simp] theorem State.pull16_a (s : State) : (s.pull16.2).a = s.a := by simp [State.pull16]
@[simp] theorem State.pull16_b (s : State) : (s.pull16.2).b = s.b := by simp [State.pull16]
@[simp] theorem State.pull16_x (s : State) : (s.pull16.2).x = s.x := by simp [State.pull16]
@[simp] theorem State.pull16_pc (s : State) : (s.pull16.2).pc = s.pc := by simp [State.pull16]
@[simp] theorem State.pull16_cc (s : State) : (s.pull16.2).cc = s.cc := by simp [State.pull16]
@[simp] theorem State.pull16_mode (s : State) : (s.pull16.2).mode = s.mode := by simp [State.pull16]
@[simp] theorem State.pull16_nmiPend (s : State) : (s.pull16.2).nmiPend = s.nmiPend := by simp [State.pull16]
@[simp] theorem State.pull16_rstPend (s : State) : (s.pull16.2).rstPend = s.rstPend := by simp [State.pull16]
@[simp] theorem State.pull16_irqLine (s : State) : (s.pull16.2).irqLine = s.irqLine := by simp [State.pull16]
@[simp] theorem State.pull16_nmiLine (s : State) : (s.pull16.2).nmiLine = s.nmiLine := by simp [State.pull16]
@[simp] theorem State.pull16_resetLine (s : State) : (s.pull16.2).resetLine = s.resetLine := by simp [State.pull16]
@[simp] theorem State.pull16_icount (s : State) : (s.pull16.2).icount = s.icount := by simp [State.pull16]
@[simp] theorem State.pull16_total (s : State) : (s.pull16.2).total = s.total := by simp [State.pull16]
@[simp] theorem State.pull16_mem (s : State) : (s.pull16.2).mem = s.mem := by simp [State.pull16]
@[simp] theorem State.pull16_draws (s : State) : (s.pull16.2).draws = s.draws := by simp [State.pull16]

@[simp] theorem State.pushFrame_cfg (s : State) : (s.pushFrame).cfg = s.cfg := by simp [State.pushFrame]
@[simp] theorem State.pushFrame_a (s : State) : (s.pushFrame).a = s.a := by simp [State.pushFrame]
@[simp] theorem State.pushFrame_b (s : State) : (s.pushFrame).b = s.b := by simp [State.pushFrame]
@[simp] theorem State.pushFrame_x (s : State) : (s.pushFrame).x = s.x := by simp [State.pushFrame]
@[simp] theorem State.pushFrame_pc (s : State) : (s.pushFrame).pc = s.pc := by simp [State.pushFrame]
@[simp] theorem State.pushFrame_cc (s : State) : (s.pushFrame).cc = s.cc := by simp [State.pushFrame]
@[simp] theorem State.pushFrame_mode (s : State) : (s.pushFrame).mode = s.mode := by simp [State.pushFrame]
@[simp] theorem State.pushFrame_nmiPend (s : State) : (s.pushFrame).nmiPend = s.nmiPend := by simp [State.pushFrame]
@[simp] theorem State.pushFrame_rstPend (s : State) : (s.pushFrame).rstPend = s.rstPend := by simp [State.pushFrame]
@[simp] theorem State.pushFrame_irqLine (s : State) : (s.pushFrame).irqLine = s.irqLine := by simp [State.pushFrame]
@[simp] theorem State.pushFrame_nmiLine (s : State) : (s.pushFrame).nmiLine = s.nmiLine := by simp [State.pushFrame]
@[simp] theorem State.pushFrame_resetLine (s : State) : (s.pushFrame).resetLine = s.resetLine := by simp [State.pushFrame]
@[simp] theorem State.pushFrame_icount (s : State) : (s.pushFrame).icount = s.icount := by simp [State.pushFrame]
@[simp] theorem State.pushFrame_total (s : State) : (s.pushFrame).total = s.total := by simp [State.pushFrame]
@[simp] theorem State.pushFrame_draws (s : State) : (s.pushFrame).draws = s.draws := by simp [State.pushFrame]

@[simp] theorem State.push8_sp (s : State) (v : Byte) : (s.push8 v).sp = s.sp - 1#16 := by simp [State.push8]
@[simp] theorem State.pull8_sp (s : State) : s.pull8.2.sp = s.sp + 1#16 := by simp [State.pull8]
@[simp] theorem State.push16_sp (s : State) (v : Word) : (s.push16 v).sp = s.sp - 1#16 - 1#16 := by simp [State.push16]
@[simp] theorem State.pull16_sp (s : State) : s.pull16.2.sp = s.sp + 1#16 + 1#16 := by simp [State.pull16]

@[simp] theorem State.timerAdvance_cfg (s : State) (n : Nat) : (s.timerAdvance n).cfg = s.cfg := by
  unfold State.timerAdvance; split <;> rfl
@[simp] theorem State.timerAdvance_a (s : State) (n : Nat) : (s.timerAdvance n).a = s.a := by
  unfold State.timerAdvance; split <;> rfl
@[simp] theorem State.timerAdvance_b (s : State) (n : Nat) : (s.timerAdvance n).b = s.b := by
  unfold State.timerAdvance; split <;> rfl
@[simp] theorem State.timerAdvance_x (s : State) (n : Nat) : (s.timerAdvance n).x = s.x := by
  unfold State.timerAdvance; split <;> rfl
@[simp] theorem State.timerAdvance_sp (s : State) (n : Nat) : (s.timerAdvance n).sp = s.sp := by
  unfold State.timerAdvance; split <;> rfl
@[simp] theorem State.timerAdvance_pc (s : State) (n : Nat) : (s.timerAdvance n).pc = s.pc := by
  unfold State.timerAdvance; split <;> rfl
@[simp] theorem State.timerAdvance_cc (s : State) (n : Nat) : (s.timerAdvance n).cc = s.cc := by
  unfold State.timerAdvance; split <;> rfl
@[simp] theorem State.timerAdvance_mode (s : State) (n : Nat) : (s.timerAdvance n).mode = s.mode := by
  unfold State.timerAdvance; split <;> rfl
@[simp] theorem State.timerAdvance_nmiPend (s : State) (n : Nat) : (s.timerAdvance n).nmiPend = s.nmiPend := by
  unfold State.timerAdvance; split <;> rfl
@[simp] theorem State.timerAdvance_rstPend (s : State) (n : Nat) : (s.timerAdvance n).rstPend = s.rstPend := by
  unfold State.timerAdvance; split <;> rfl
@[simp] theorem State.timerAdvance_irqLine (s : State) (n : Nat) : (s.timerAdvance n).irqLine = s.irqLine := by
  unfold State.timerAdvance; split <;> rfl
@[simp] theorem State.timerAdvance_nmiLine (s : State) (n : Nat) : (s.timerAdvance n).nmiLine = s.nmiLine := by
  unfold State.timerAdvance; split <;> rfl
@[simp] theorem State.timerAdvance_resetLine (s : State) (n : Nat) : (s.timerAdvance n).resetLine = s.resetLine := by
  unfold State.timerAdvance; split <;> rfl
@[simp] theorem State.timerAdvance_icount (s : State) (n : Nat) : (s.timerAdvance n).icount = s.icount := by
  unfold State.timerAdvance; split <;> rfl
@[simp] theorem State.timerAdvance_total (s : State) (n : Nat) : (s.timerAdvance n).total = s.total := by
  unfold State.timerAdvance; split <;> rfl
@[simp] theorem State.timerAdvance_sci (s : State) (n : Nat) : (s.timerAdvance n).sci = s.sci := by
  unfold State.timerAdvance; split <;> rfl
@[simp] theorem State.timerAdvance_mem (s : State) (n : Nat) : (s.timerAdvance n).mem = s.mem := by
  unfold State.timerAdvance; split <;> rfl
@[simp] theorem State.timerAdvance_devLog (s : State) (n : Nat) : (s.timerAdvance n).devLog = s.devLog := by
  unfold State.timerAdvance; split <;> rfl
@[simp] theorem State.timerAdvance_draws (s : State) (n : Nat) : (s.timerAdvance n).draws = s.draws := by
  unfold State.timerAdvance; split <;> rfl

@[simp] theorem State.serialAdvance_cfg (s : State) (n : Nat) : (s.serialAdvance n).cfg = s.cfg := by
  unfold State.serialAdvance; split <;> rfl
@[simp] theorem State.serialAdvance_a (s : State) (n : Nat) : (s.serialAdvance n).a = s.a := by
  unfold State.serialAdvance; split <;> rfl
@[simp] theorem State.serialAdvance_b (s : State) (n : Nat) : (s.serialAdvance n).b = s.b := by
  unfold State.serialAdvance; split <;> rfl
@[simp] theorem State.serialAdvance_x (s : State) (n : Nat) : (s.serialAdvance n).x = s.x := by
  unfold State.serialAdvance; split <;> rfl
@[simp] theorem State.serialAdvance_sp (s : State) (n : Nat) : (s.serialAdvance n).sp = s.sp := by
  unfold State.serialAdvance; split <;> rfl
@[simp] theorem State.serialAdvance_pc (s : State) (n : Nat) : (s.serialAdvance n).pc = s.pc := by
  unfold State.serialAdvance; split <;> rfl
@[simp] theorem State.serialAdvance_cc (s : State) (n : Nat) : (s.serialAdvance n).cc = s.cc := by
  unfold State.serialAdvance; split <;> rfl
@[simp] theorem State.serialAdvance_mode (s : State) (n : Nat) : (s.serialAdvance n).mode = s.mode := by
  unfold State.serialAdvance; split <;> rfl
@[simp] theorem State.serialAdvance_nmiPend (s : State) (n : Nat) : (s.serialAdvance n).nmiPend = s.nmiPend := by
  unfold State.serialAdvance; split <;> rfl
@[simp] theorem State.serialAdvance_rstPend (s : State) (n : Nat) : (s.serialAdvance n).rstPend = s.rstPend := by
  unfold State.serialAdvance; split <;> rfl
@[simp] theorem State.serialAdvance_irqLine (s : State) (n : Nat) : (s.serialAdvance n).irqLine = s.irqLine := by
  unfold State.serialAdvance; split <;> rfl
@[simp] theorem State.serialAdvance_nmiLine (s : State) (n : Nat) : (s.serialAdvance n).nmiLine = s.nmiLine := by
  unfold State.serialAdvance; split <;> rfl
@[simp] theorem State.serialAdvance_resetLine (s : State) (n : Nat) : (s.serialAdvance n).resetLine = s.resetLine := by
  unfold State.serialAdvance; split <;> rfl
@[simp] theorem State.serialAdvance_icount (s : State) (n : Nat) : (s.serialAdvance n).icount = s.icount := by
  unfold State.serialAdvance; split <;> rfl
@[simp] theorem State.serialAdvance_total (s : State) (n : Nat) : (s.serialAdvance n).total = s.total := by
  unfold State.serialAdvance; split <;> rfl
@[simp] theorem State.serialAdvance_tim (s : State) (n : Nat) : (s.serialAdvance n).tim = s.tim := by
  unfold State.serialAdvance; split <;> rfl
@[simp] theorem State.serialAdvance_mem (s : State) (n : Nat) : (s.serialAdvance n).mem = s.mem := by
  unfold State.serialAdvance; split <;> rfl
@[simp] theorem State.serialAdvance_devLog (s : State) (n : Nat) : (s.serialAdvance n).devLog = s.devLog := by
  unfold State.serialAdvance; split <;> rfl
@[simp] theorem State.serialAdvance_draws (s : State) (n : Nat) : (s.serialAdvance n).draws = s.draws := by
  unfold State.serialAdvance; split <;> rfl

@[simp] theorem State.account_cfg (s : State) (c : Nat) : (s.account c).cfg = s.cfg := by
  unfold State.account; split <;> simp
@[simp] theorem State.account_a (s : State) (c : Nat) : (s.account c).a = s.a := by
  unfold State.account; split <;> simp
@[simp] theorem State.account_b (s : State) (c : Nat) : (s.account c).b = s.b := by
  unfold State.account; split <;> simp
@[simp] theorem State.account_x (s : State) (c : Nat) : (s.account c).x = s.x := by
  unfold State.account; split <;> simp
@[simp] theorem State.account_sp (s : State) (c : Nat) : (s.account c).sp = s.sp := by
  unfold State.account; split <;> simp
@[simp] theorem State.account_pc (s : State) (c : Nat) : (s.account c).pc = s.pc := by
  unfold State.account; split <;> simp
@[simp] theorem State.account_cc (s : State) (c : Nat) : (s.account c).cc = s.cc := by
  unfold State.account; split <;> simp
@[simp] theorem State.account_mode (s : State) (c : Nat) : (s.account c).mode = s.mode := by
  unfold State.account; split <;> simp
@[simp] theorem State.account_nmiPend (s : State) (c : Nat) : (s.account c).nmiPend = s.nmiPend := by
  unfold State.account; split <;> simp
@[simp] theorem State.account_rstPend (s : State) (c : Nat) : (s.account c).rstPend = s.rstPend := by
  unfold State.account; split <;> simp
@[simp] theorem State.account_irqLine (s : State) (c : Nat) : (s.account c).irqLine = s.irqLine := by
  unfold State.account; split <;> simp
@[simp] theorem State.account_nmiLine (s : State) (c : Nat) : (s.account c).nmiLine = s.nmiLine := by
  unfold State.account; split <;> simp
@[simp] theorem State.account_resetLine (s : State) (c : Nat) : (s.account c).resetLine = s.resetLine := by
  unfold State.account; split <;> simp
@[simp] theorem State.account_mem (s : State) (c : Nat) : (s.account c).mem = s.mem := by
  unfold State.account; split <;> simp
@[simp] theorem State.account_devLog (s : State) (c : Nat) : (s.account c).devLog = s.devLog := by
  unfold State.account; split <;> simp
@[simp] theorem State.account_draws (s : State) (c : Nat) : (s.account c).draws = s.draws := by
  unfold State.account; split <;> simp

@[simp] theorem State.account_icount (s : State) (c : Nat) : (s.account c).icount = s.icount - c := by
  unfold State.account; split <;> simp [*]
@[simp] theorem State.account_total (s : State) (c : Nat) : (s.account c).total = s.total + c := by
  unfold State.account; split <;> simp [*]

end Sys2Proof.Machine
end

