-- ==== Sys2Proof/Laws/Exec.lean ====
section
/-!
SUPPORT. What `exec` answers for the instructions of one shape, and the case analysis by shape, so that a proof about every
instruction has one case per shared meaning.
-/

namespace Sys2Proof.Laws

open Sys2Proof.Machine Sys2Proof.Claims

theorem exec_add (r : Acc) (src : Src 8) (s : State) : exec (add r src) s = .next (s.addAcc r false src) := by
  rcases src with v | (dd | ff | hhll) <;> cases r <;> rfl

theorem exec_adc (r : Acc) (src : Src 8) (s : State) : exec (adc r src) s = .next (s.addAcc r s.cc.c src) := by
  rcases src with v | (dd | ff | hhll) <;> cases r <;> rfl

theorem exec_sub (r : Acc) (src : Src 8) (s : State) : exec (sub r src) s = .next (s.subAcc r false src) := by
  rcases src with v | (dd | ff | hhll) <;> cases r <;> rfl

theorem exec_sbc (r : Acc) (src : Src 8) (s : State) : exec (sbc r src) s = .next (s.subAcc r s.cc.c src) := by
  rcases src with v | (dd | ff | hhll) <;> cases r <;> rfl

theorem exec_cmp (r : Acc) (src : Src 8) (s : State) : exec (cmp r src) s = .next (s.cmpAcc r src) := by
  rcases src with v | (dd | ff | hhll) <;> cases r <;> rfl

theorem exec_lda (r : Acc) (src : Src 8) (s : State) : exec (lda r src) s = .next (s.loadAcc r src) := by
  rcases src with v | (dd | ff | hhll) <;> cases r <;> rfl

theorem exec_addD (src : Src 16) (s : State) : exec (addD src) s = .next (s.addD src) := by
  rcases src with v | (dd | ff | hhll) <;> rfl

theorem exec_subD (src : Src 16) (s : State) : exec (subD src) s = .next (s.subD src) := by
  rcases src with v | (dd | ff | hhll) <;> rfl

theorem exec_ldd (src : Src 16) (s : State) : exec (ldd src) s = .next (s.loadD src) := by
  rcases src with v | (dd | ff | hhll) <;> rfl

theorem exec_ldx (src : Src 16) (s : State) : exec (ldx src) s = .next (s.loadX src) := by
  rcases src with v | (dd | ff | hhll) <;> rfl

theorem exec_lds (src : Src 16) (s : State) : exec (lds src) s = .next (s.loadSp src) := by
  rcases src with v | (dd | ff | hhll) <;> rfl

theorem exec_sta (r : Acc) (m : Mem) (s : State) : exec (sta r m) s = .next (s.storeAcc r m) := by
  cases r <;> cases m <;> rfl

theorem exec_std (m : Mem) (s : State) : exec (std m) s = .next (s.storeD m) := by cases m <;> rfl

theorem exec_stx (m : Mem) (s : State) : exec (stx m) s = .next (s.storeX m) := by cases m <;> rfl

theorem exec_jsr (m : Mem) (s : State) : exec (jsr m) s = .next (s.call (m.ea s)) := by cases m <;> rfl

theorem exec_jmp {m : Mem} {i : Instr} (s : State) (h : jmp m = some i) : exec i s = .next (s.setPc (m.ea s)) := by
  cases m <;> cases h <;> rfl

theorem exec_shiftAcc (k : ShiftKind) (r : Acc) (s : State) : exec (shiftAcc k r) s = .next (s.shiftAcc k r) := by
  cases k <;> cases r <;> rfl

theorem exec_shiftMem {k : ShiftKind} {m : Mem} {i : Instr} (s : State) (h : shiftMem k m = some i) :
    exec i s = .next (s.shiftMem k m) := by
  cases k <;> cases m <;> cases h <;> rfl

theorem exec_maskMem {o : MaskOp} {ii : Byte} {m : Mem} {i : Instr} (s : State) (h : maskMem o ii m = some i) :
    exec i s = .next (if o = .tim then s.testMem m fun v => o.apply v ii else s.updateMem m fun v => o.apply v ii) := by
  cases o <;> cases m <;> cases h <;> rfl

theorem exec_branch (k : Cond) (rr : Byte) (s : State) : exec (branch k rr) s = .next (s.branch k rr) := by
  cases k <;> rfl

theorem exec_illegal {i : Instr} (s : State) (h : i = .illegal00 ∨ i = .illegal02 ∨ i = .illegal03) :
    exec i s = .next s.illegalSlot := by
  rcases h with rfl | rfl | rfl <;> rfl

theorem exec_daa (s : State) : exec .daa s = .next s.daa := rfl

theorem exec_mul (s : State) : exec .mul s = .next s.mul := rfl

theorem exec_inca (s : State) : exec .inca s = .next (s.incAcc .A) := rfl

theorem exec_incb (s : State) : exec .incb s = .next (s.incAcc .B) := rfl

theorem exec_deca (s : State) : exec .deca s = .next (s.decAcc .A) := rfl

theorem exec_decb (s : State) : exec .decb s = .next (s.decAcc .B) := rfl

theorem exec_inx (s : State) : exec .inx s = .next s.incX := rfl

theorem exec_dex (s : State) : exec .dex s = .next s.decX := rfl

theorem exec_asld (s : State) : exec .asld s = .next (s.shiftD .asl) := rfl

theorem exec_lsrd (s : State) : exec .lsrd s = .next (s.shiftD .lsr) := rfl

theorem exec_bsr (rr : Byte) (s : State) : exec (.bsr rr) s = .next (s.call (s.relTarget rr)) := rfl

theorem exec_rts (s : State) : exec .rts s = .next s.returnFromCall := rfl

theorem exec_rti (s : State) : exec .rti s = .next s.returnFromInterrupt := rfl

theorem exec_wai (s : State) : exec .wai s = .next (s.setMode .waitWai) := rfl

theorem exec_slp (s : State) : exec .slp s = .next (s.setMode .waitSlp) := rfl

theorem exec_nop (s : State) : exec .nop s = .next s := rfl

theorem exec_tap (s : State) : exec .tap s = .next (s.setCc (CC.ofByte s.a)) := rfl

theorem exec_tpa (s : State) : exec .tpa s = .next (s.setAcc .A s.cc.toByte) := rfl

theorem exec_clv (s : State) : exec .clv s = .next (s.setCc { s.cc with v := false }) := rfl

theorem exec_sev (s : State) : exec .sev s = .next (s.setCc { s.cc with v := true }) := rfl

theorem exec_clc (s : State) : exec .clc s = .next (s.setCc { s.cc with c := false }) := rfl

theorem exec_sec (s : State) : exec .sec s = .next (s.setCc { s.cc with c := true }) := rfl

theorem exec_cli (s : State) : exec .cli s = .next (s.setCc { s.cc with i := false }) := rfl

theorem exec_sei (s : State) : exec .sei s = .next (s.setCc { s.cc with i := true }) := rfl

/-- The instructions by shape: a statement holds of every instruction if it holds of each shape. -/
theorem instr_cases {P : Instr → Prop} (add : ∀ r src, P (add r src)) (adc : ∀ r src, P (adc r src))
    (sub : ∀ r src, P (sub r src)) (sbc : ∀ r src, P (sbc r src)) (cmp : ∀ r src, P (cmp r src))
    (lda : ∀ r src, P (lda r src)) (addD : ∀ src, P (addD src)) (subD : ∀ src, P (subD src)) (ldd : ∀ src, P (ldd src))
    (ldx : ∀ src, P (ldx src)) (lds : ∀ src, P (lds src)) (sta : ∀ r m, P (sta r m)) (std : ∀ m, P (std m))
    (stx : ∀ m, P (stx m)) (jsr : ∀ m, P (jsr m)) (jmp : ∀ m i, jmp m = some i → P i)
    (shiftAcc : ∀ k r, P (shiftAcc k r)) (shiftMem : ∀ k m i, shiftMem k m = some i → P i)
    (maskMem : ∀ o ii m i, maskMem o ii m = some i → P i) (branch : ∀ k rr, P (branch k rr))
    (illegal : ∀ i, i = .illegal00 ∨ i = .illegal02 ∨ i = .illegal03 → P i)
    (daa : P .daa) (mul : P .mul) (inca : P .inca) (incb : P .incb) (deca : P .deca) (decb : P .decb) (inx : P .inx)
    (dex : P .dex) (asld : P .asld) (lsrd : P .lsrd) (bsr : ∀ rr, P (.bsr rr)) (rts : P .rts) (rti : P .rti)
    (wai : P .wai) (slp : P .slp) (nop : P .nop) (tap : P .tap) (tpa : P .tpa) (clv : P .clv) (sev : P .sev)
    (clc : P .clc) (sec : P .sec) (cli : P .cli) (sei : P .sei) : ∀ i, P i := by
  intro i
  cases i <;> first
    | assumption
    | exact bsr _
    | exact illegal .illegal00 (.inl rfl)
    | exact illegal .illegal02 (.inr (.inl rfl))
    | exact illegal .illegal03 (.inr (.inr rfl))
    | exact add .A (.imm _)
    | exact add .A (.mem (.dir _))
    | exact add .A (.mem (.idx _))
    | exact add .A (.mem (.ext _))
    | exact add .B (.imm _)
    | exact add .B (.mem (.dir _))
    | exact add .B (.mem (.idx _))
    | exact add .B (.mem (.ext _))
    | exact adc .A (.imm _)
    | exact adc .A (.mem (.dir _))
    | exact adc .A (.mem (.idx _))
    | exact adc .A (.mem (.ext _))
    | exact adc .B (.imm _)
    | exact adc .B (.mem (.dir _))
    | exact adc .B (.mem (.idx _))
    | exact adc .B (.mem (.ext _))
    | exact sub .A (.imm _)
    | exact sub .A (.mem (.dir _))
    | exact sub .A (.mem (.idx _))
    | exact sub .A (.mem (.ext _))
    | exact sub .B (.imm _)
    | exact sub .B (.mem (.dir _))
    | exact sub .B (.mem (.idx _))
    | exact sub .B (.mem (.ext _))
    | exact sbc .A (.imm _)
    | exact sbc .A (.mem (.dir _))
    | exact sbc .A (.mem (.idx _))
    | exact sbc .A (.mem (.ext _))
    | exact sbc .B (.imm _)
    | exact sbc .B (.mem (.dir _))
    | exact sbc .B (.mem (.idx _))
    | exact sbc .B (.mem (.ext _))
    | exact cmp .A (.imm _)
    | exact cmp .A (.mem (.dir _))
    | exact cmp .A (.mem (.idx _))
    | exact cmp .A (.mem (.ext _))
    | exact cmp .B (.imm _)
    | exact cmp .B (.mem (.dir _))
    | exact cmp .B (.mem (.idx _))
    | exact cmp .B (.mem (.ext _))
    | exact lda .A (.imm _)
    | exact lda .A (.mem (.dir _))
    | exact lda .A (.mem (.idx _))
    | exact lda .A (.mem (.ext _))
    | exact lda .B (.imm _)
    | exact lda .B (.mem (.dir _))
    | exact lda .B (.mem (.idx _))
    | exact lda .B (.mem (.ext _))
    | exact addD (.imm _)
    | exact addD (.mem (.dir _))
    | exact addD (.mem (.idx _))
    | exact addD (.mem (.ext _))
    | exact subD (.imm _)
    | exact subD (.mem (.dir _))
    | exact subD (.mem (.idx _))
    | exact subD (.mem (.ext _))
    | exact ldd (.imm _)
    | exact ldd (.mem (.dir _))
    | exact ldd (.mem (.idx _))
    | exact ldd (.mem (.ext _))
    | exact ldx (.imm _)
    | exact ldx (.mem (.dir _))
    | exact ldx (.mem (.idx _))
    | exact ldx (.mem (.ext _))
    | exact lds (.imm _)
    | exact lds (.mem (.dir _))
    | exact lds (.mem (.idx _))
    | exact lds (.mem (.ext _))
    | exact sta .A (.dir _)
    | exact sta .A (.idx _)
    | exact sta .A (.ext _)
    | exact sta .B (.dir _)
    | exact sta .B (.idx _)
    | exact sta .B (.ext _)
    | exact std (.dir _)
    | exact std (.idx _)
    | exact std (.ext _)
    | exact stx (.dir _)
    | exact stx (.idx _)
    | exact stx (.ext _)
    | exact jsr (.dir _)
    | exact jsr (.idx _)
    | exact jsr (.ext _)
    | exact jmp (.idx _) _ rfl
    | exact jmp (.ext _) _ rfl
    | exact shiftAcc .asl .A
    | exact shiftAcc .asl .B
    | exact shiftMem .asl (.idx _) _ rfl
    | exact shiftMem .asl (.ext _) _ rfl
    | exact shiftAcc .asr .A
    | exact shiftAcc .asr .B
    | exact shiftMem .asr (.idx _) _ rfl
    | exact shiftMem .asr (.ext _) _ rfl
    | exact shiftAcc .lsr .A
    | exact shiftAcc .lsr .B
    | exact shiftMem .lsr (.idx _) _ rfl
    | exact shiftMem .lsr (.ext _) _ rfl
    | exact shiftAcc .rol .A
    | exact shiftAcc .rol .B
    | exact shiftMem .rol (.idx _) _ rfl
    | exact shiftMem .rol (.ext _) _ rfl
    | exact shiftAcc .ror .A
    | exact shiftAcc .ror .B
    | exact shiftMem .ror (.idx _) _ rfl
    | exact shiftMem .ror (.ext _) _ rfl
    | exact maskMem .aim _ (.dir _) _ rfl
    | exact maskMem .aim _ (.idx _) _ rfl
    | exact maskMem .oim _ (.dir _) _ rfl
    | exact maskMem .oim _ (.idx _) _ rfl
    | exact maskMem .eim _ (.dir _) _ rfl
    | exact maskMem .eim _ (.idx _) _ rfl
    | exact maskMem .tim _ (.dir _) _ rfl
    | exact maskMem .tim _ (.idx _) _ rfl
    | exact branch .always _
    | exact branch .never _
    | exact branch .hi _
    | exact branch .ls _
    | exact branch .cc _
    | exact branch .cs _
    | exact branch .ne _
    | exact branch .eq _
    | exact branch .vc _
    | exact branch .vs _
    | exact branch .pl _
    | exact branch .mi _
    | exact branch .ge _
    | exact branch .lt _
    | exact branch .gt _
    | exact branch .le _

/-- No instruction's meaning ends in a fault or a refusal. -/
theorem exec_next (i : Instr) (s : State) : ∃ t, exec i s = .next t := by
  cases i <;> exact ⟨_, rfl⟩

end Sys2Proof.Laws
end

