-- ==== Sys2Proof/Laws/Memory.lean ====
section
/-!
SUPPORT. The laws of external memory: a read after a write, the canonical form kept by every operation, and that the
canonical form makes equal memories equal lists.
-/

namespace Sys2Proof.Machine

theorem Memory.read_insert (m : Memory) (a : Word) (v : Byte) (b : Word) :
    (Memory.insert m a v).read b = if a = b then v else Memory.read m b := by
  induction m with
  | nil => simp only [Memory.insert, Memory.read, BitVec.toNat_inj]
  | cons c m ih =>
    simp only [Memory.insert]
    split
    · simp only [Memory.read, BitVec.toNat_inj]
    · split
      · rename_i h2
        simp only [Memory.read, BitVec.toNat_inj, h2]
        split <;> rfl
      · rename_i h1 h2
        simp only [Memory.read, ih]
        by_cases hab : a = b
        · subst hab; simp [h2]
        · simp [hab]

theorem Memory.read_filter (m : Memory) (a b : Word) :
    Memory.read (m.filter fun c => c.1 != a.toNat) b = if a = b then Memory.unlisted else Memory.read m b := by
  induction m with
  | nil => simp [Memory.read]
  | cons c m ih =>
    simp only [List.filter_cons]
    by_cases h : c.1 = a.toNat
    · by_cases hab : a = b
      · subst hab; simpa [h] using ih
      · have : ¬ a.toNat = b.toNat := fun e => hab (BitVec.toNat_inj.mp e)
        simp [h, ih, hab, Memory.read, this]
    · by_cases hab : a = b
      · subst hab; simpa [h, Memory.read] using ih
      · simp [h, Memory.read, ih, hab]

/-- What a write does, once: the byte at its address, and every other byte as it was (R73). -/
@[simp] theorem Memory.read_write (m : Memory) (a : Word) (v : Byte) (b : Word) :
    (Memory.write m a v).read b = if a = b then v else Memory.read m b := by
  unfold Memory.write
  split
  · rename_i h; rw [Memory.read_filter, h]
  · exact Memory.read_insert m a v b

theorem Memory.wfFrom_mono {m : Memory} {lo lo' : Nat} (h : lo' ≤ lo) (w : Memory.wfFrom lo m = true) :
    Memory.wfFrom lo' m = true := by
  cases m with
  | nil => rfl
  | cons c m =>
    simp only [Memory.wfFrom, Bool.and_eq_true, decide_eq_true_eq] at w ⊢
    exact ⟨⟨⟨Nat.le_trans h w.1.1.1, w.1.1.2⟩, w.1.2⟩, w.2⟩

theorem Memory.wfFrom_insert {m : Memory} {lo : Nat} {a : Word} {v : Byte} (hv : v ≠ Memory.unlisted)
    (hlo : lo ≤ a.toNat) (w : Memory.wfFrom lo m = true) : Memory.wfFrom lo (Memory.insert m a v) = true := by
  induction m generalizing lo with
  | nil => have := a.isLt; simp [Memory.insert, Memory.wfFrom, hlo, hv]; omega
  | cons c m ih =>
    have ha := a.isLt
    simp only [Memory.wfFrom, Bool.and_eq_true, decide_eq_true_eq, bne_iff_ne] at w
    simp only [Memory.insert]
    split
    · rename_i h
      simp only [Memory.wfFrom, Bool.and_eq_true, decide_eq_true_eq, bne_iff_ne]
      exact ⟨⟨⟨hlo, ha⟩, hv⟩, ⟨⟨⟨h, w.1.1.2⟩, w.1.2⟩, w.2⟩⟩
    · split
      · rename_i h2
        simp only [Memory.wfFrom, Bool.and_eq_true, decide_eq_true_eq, bne_iff_ne]
        exact ⟨⟨⟨hlo, ha⟩, hv⟩, h2 ▸ w.2⟩
      · simp only [Memory.wfFrom, Bool.and_eq_true, decide_eq_true_eq, bne_iff_ne]
        exact ⟨w.1, ih (by omega) w.2⟩

theorem Memory.wfFrom_filter {m : Memory} {lo : Nat} (p : Host.Cell → Bool) (w : Memory.wfFrom lo m = true) :
    Memory.wfFrom lo (m.filter p) = true := by
  induction m generalizing lo with
  | nil => rfl
  | cons c m ih =>
    simp only [Memory.wfFrom, Bool.and_eq_true, decide_eq_true_eq, bne_iff_ne] at w
    simp only [List.filter_cons]
    split
    · simp only [Memory.wfFrom, Bool.and_eq_true, decide_eq_true_eq, bne_iff_ne]
      exact ⟨w.1, ih w.2⟩
    · exact Memory.wfFrom_mono (by omega) (ih w.2)

/-- A write keeps the canonical form. -/
theorem Memory.wf_write {m : Memory} (a : Word) (v : Byte) (w : m.wf = true) : (Memory.write m a v).wf = true := by
  unfold Memory.write
  split
  · exact Memory.wfFrom_filter _ w
  · rename_i hv; exact Memory.wfFrom_insert hv (Nat.zero_le _) w

/-- The memory after reset has the canonical form. -/
theorem State.reset_mem_wf : State.reset.mem.wf = true := rfl

/-- Below the first entry of a canonical memory nothing is listed. -/
theorem Memory.read_of_lt {m : Memory} {lo : Nat} (w : Memory.wfFrom lo m = true) {b : Word} (h : b.toNat < lo) :
    Memory.read m b = Memory.unlisted := by
  induction m generalizing lo with
  | nil => rfl
  | cons c m ih =>
    simp only [Memory.wfFrom, Bool.and_eq_true, decide_eq_true_eq, bne_iff_ne] at w
    simp only [Memory.read]
    rw [if_neg (by omega)]
    exact ih w.2 (by omega)

/-- Two canonical memories, from the same lower bound, that read alike are equal. -/
theorem Memory.eq_of_read_from : ∀ (m n : Memory) (lo : Nat), Memory.wfFrom lo m = true → Memory.wfFrom lo n = true →
    (∀ addr : Word, m.read addr = n.read addr) → m = n := by
  intro m
  induction m with
  | nil =>
    intro n lo _ hn h
    cases n with
    | nil => rfl
    | cons c n =>
      simp only [Memory.wfFrom, Bool.and_eq_true, decide_eq_true_eq, bne_iff_ne] at hn
      have := h (BitVec.ofNat 16 c.1)
      simp [Memory.read, Nat.mod_eq_of_lt hn.1.1.2] at this
      exact absurd this.symm hn.1.2
  | cons d m ih =>
    intro n lo hm hn h
    cases n with
    | nil =>
      simp only [Memory.wfFrom, Bool.and_eq_true, decide_eq_true_eq, bne_iff_ne] at hm
      have := h (BitVec.ofNat 16 d.1)
      simp [Memory.read, Nat.mod_eq_of_lt hm.1.1.2] at this
      exact absurd this hm.1.2
    | cons c n =>
      have hm' := hm
      have hn' := hn
      simp only [Memory.wfFrom, Bool.and_eq_true, decide_eq_true_eq, bne_iff_ne] at hm hn
      have e1 := h (BitVec.ofNat 16 d.1)
      have e2 := h (BitVec.ofNat 16 c.1)
      have hd : (BitVec.ofNat 16 d.1).toNat = d.1 := by simp; omega
      have hc : (BitVec.ofNat 16 c.1).toNat = c.1 := by simp; omega
      have key : d.1 = c.1 := by
        rcases Nat.lt_trichotomy d.1 c.1 with hlt | heq | hgt
        · exfalso
          have z := Memory.read_of_lt (m := c :: n) (lo := c.1) (b := BitVec.ofNat 16 d.1) (by simp [Memory.wfFrom, hn]) (by rw [hd]; exact hlt)
          rw [z] at e1
          simp only [Memory.read, hd, if_true] at e1
          exact hm.1.2 e1
        · exact heq
        · exfalso
          have z := Memory.read_of_lt (m := d :: m) (lo := d.1) (b := BitVec.ofNat 16 c.1) (by simp [Memory.wfFrom, hm]) (by rw [hc]; exact hgt)
          rw [z] at e2
          simp only [Memory.read, hc, if_true] at e2
          exact hn.1.2 e2.symm
      have kv : d = c := by
        refine Prod.ext key ?_
        simpa only [Memory.read, hc, key, if_true] using e2
      subst kv
      congr 1
      refine ih n (d.1+1) hm.2 hn.2 ?_
      intro addr
      by_cases ha : d.1 = addr.toNat
      · rw [Memory.read_of_lt hm.2 (by omega), Memory.read_of_lt hn.2 (by omega)]
      · have := h addr
        simpa [Memory.read, ha] using this

end Sys2Proof.Machine
end

