-- ==== Sys2Proof/Laws/Ops.lean ====
section
/-!
SUPPORT. What the shared operations do, said once: an access to memory beside an update of a register, an access to ordinary
memory, the stack primitives as writes down and reads up, the entry as the state `Claims.entered` gives.
-/

namespace Sys2Proof.Machine

open Sys2Proof.Claims

/-! An access to memory neither sees nor changes `SP`. -/

theorem State.peek_setSp (s : State) (w : Word) (addr : Word) : (s.setSp w).peek addr = s.peek addr := rfl

theorem State.readEffect_setSp (s : State) (w : Word) (addr : Word) :
    (s.setSp w).readEffect addr = (s.readEffect addr).setSp w := by
  unfold State.readEffect
  rw [State.setSp_cfg]
  split
  · rename_i r _
    cases r with
    | cl => by_cases h : s.cfg.clFallthrough = true <;> simp only [State.windowReadEffect, State.setSp_cfg, h] <;> rfl
    | _ => rfl
  · unfold State.extReadEffect; rw [State.setSp_cfg]; split <;> rfl

theorem State.write8_setSp (s : State) (w : Word) (addr : Word) (v : Byte) :
    (s.setSp w).write8 addr v = (s.write8 addr v).setSp w := by
  unfold State.write8
  rw [State.setSp_cfg]
  split
  · rename_i r _; cases r <;> rfl
  · unfold State.extWrite; rw [State.setSp_cfg]; split <;> rfl

theorem State.read8_setSp (s : State) (w : Word) (addr : Word) :
    (s.setSp w).read8 addr = ((s.read8 addr).1, (s.read8 addr).2.setSp w) := by
  simp only [State.read8, State.readEffect_setSp, State.peek_setSp]

theorem State.read16_setSp (s : State) (w : Word) (addr : Word) :
    (s.setSp w).read16 addr = ((s.read16 addr).1, (s.read16 addr).2.setSp w) := by
  simp only [State.read16, State.read8, State.readEffect_setSp, State.peek_setSp]

/-! An access to memory neither sees nor changes `PC`. -/

theorem State.peek_setPc (s : State) (w : Word) (addr : Word) : (s.setPc w).peek addr = s.peek addr := rfl

theorem State.readEffect_setPc (s : State) (w : Word) (addr : Word) :
    (s.setPc w).readEffect addr = (s.readEffect addr).setPc w := by
  unfold State.readEffect
  rw [State.setPc_cfg]
  split
  · rename_i r _
    cases r with
    | cl => by_cases h : s.cfg.clFallthrough = true <;> simp only [State.windowReadEffect, State.setPc_cfg, h] <;> rfl
    | _ => rfl
  · unfold State.extReadEffect; rw [State.setPc_cfg]; split <;> rfl

theorem State.write8_setPc (s : State) (w : Word) (addr : Word) (v : Byte) :
    (s.setPc w).write8 addr v = (s.write8 addr v).setPc w := by
  unfold State.write8
  rw [State.setPc_cfg]
  split
  · rename_i r _; cases r <;> rfl
  · unfold State.extWrite; rw [State.setPc_cfg]; split <;> rfl

theorem State.read8_setPc (s : State) (w : Word) (addr : Word) :
    (s.setPc w).read8 addr = ((s.read8 addr).1, (s.read8 addr).2.setPc w) := by
  simp only [State.read8, State.readEffect_setPc, State.peek_setPc]

theorem State.read16_setPc (s : State) (w : Word) (addr : Word) :
    (s.setPc w).read16 addr = ((s.read16 addr).1, (s.read16 addr).2.setPc w) := by
  simp only [State.read16, State.read8, State.readEffect_setPc, State.peek_setPc]

/-! An access to memory neither sees nor changes `X`. -/

theorem State.peek_setX (s : State) (w : Word) (addr : Word) : (s.setX w).peek addr = s.peek addr := rfl

theorem State.readEffect_setX (s : State) (w : Word) (addr : Word) :
    (s.setX w).readEffect addr = (s.readEffect addr).setX w := by
  unfold State.readEffect
  rw [State.setX_cfg]
  split
  · rename_i r _
    cases r with
    | cl => by_cases h : s.cfg.clFallthrough = true <;> simp only [State.windowReadEffect, State.setX_cfg, h] <;> rfl
    | _ => rfl
  · unfold State.extReadEffect; rw [State.setX_cfg]; split <;> rfl

theorem State.write8_setX (s : State) (w : Word) (addr : Word) (v : Byte) :
    (s.setX w).write8 addr v = (s.write8 addr v).setX w := by
  unfold State.write8
  rw [State.setX_cfg]
  split
  · rename_i r _; cases r <;> rfl
  · unfold State.extWrite; rw [State.setX_cfg]; split <;> rfl

theorem State.read8_setX (s : State) (w : Word) (addr : Word) :
    (s.setX w).read8 addr = ((s.read8 addr).1, (s.read8 addr).2.setX w) := by
  simp only [State.read8, State.readEffect_setX, State.peek_setX]

theorem State.read16_setX (s : State) (w : Word) (addr : Word) :
    (s.setX w).read16 addr = ((s.read16 addr).1, (s.read16 addr).2.setX w) := by
  simp only [State.read16, State.read8, State.readEffect_setX, State.peek_setX]

/-! An access to memory neither sees nor changes `CC`. -/

theorem State.peek_setCc (s : State) (w : CC) (addr : Word) : (s.setCc w).peek addr = s.peek addr := rfl

theorem State.readEffect_setCc (s : State) (w : CC) (addr : Word) :
    (s.setCc w).readEffect addr = (s.readEffect addr).setCc w := by
  unfold State.readEffect
  rw [State.setCc_cfg]
  split
  · rename_i r _
    cases r with
    | cl => by_cases h : s.cfg.clFallthrough = true <;> simp only [State.windowReadEffect, State.setCc_cfg, h] <;> rfl
    | _ => rfl
  · unfold State.extReadEffect; rw [State.setCc_cfg]; split <;> rfl

theorem State.write8_setCc (s : State) (w : CC) (addr : Word) (v : Byte) :
    (s.setCc w).write8 addr v = (s.write8 addr v).setCc w := by
  unfold State.write8
  rw [State.setCc_cfg]
  split
  · rename_i r _; cases r <;> rfl
  · unfold State.extWrite; rw [State.setCc_cfg]; split <;> rfl

theorem State.read8_setCc (s : State) (w : CC) (addr : Word) :
    (s.setCc w).read8 addr = ((s.read8 addr).1, (s.read8 addr).2.setCc w) := by
  simp only [State.read8, State.readEffect_setCc, State.peek_setCc]

theorem State.read16_setCc (s : State) (w : CC) (addr : Word) :
    (s.setCc w).read16 addr = ((s.read16 addr).1, (s.read16 addr).2.setCc w) := by
  simp only [State.read16, State.read8, State.readEffect_setCc, State.peek_setCc]

/-! An access to memory neither sees nor changes `MODE`. -/

theorem State.peek_setMode (s : State) (w : Mode) (addr : Word) : (s.setMode w).peek addr = s.peek addr := rfl

theorem State.readEffect_setMode (s : State) (w : Mode) (addr : Word) :
    (s.setMode w).readEffect addr = (s.readEffect addr).setMode w := by
  unfold State.readEffect
  rw [State.setMode_cfg]
  split
  · rename_i r _
    cases r with
    | cl => by_cases h : s.cfg.clFallthrough = true <;> simp only [State.windowReadEffect, State.setMode_cfg, h] <;> rfl
    | _ => rfl
  · unfold State.extReadEffect; rw [State.setMode_cfg]; split <;> rfl

theorem State.write8_setMode (s : State) (w : Mode) (addr : Word) (v : Byte) :
    (s.setMode w).write8 addr v = (s.write8 addr v).setMode w := by
  unfold State.write8
  rw [State.setMode_cfg]
  split
  · rename_i r _; cases r <;> rfl
  · unfold State.extWrite; rw [State.setMode_cfg]; split <;> rfl

theorem State.read8_setMode (s : State) (w : Mode) (addr : Word) :
    (s.setMode w).read8 addr = ((s.read8 addr).1, (s.read8 addr).2.setMode w) := by
  simp only [State.read8, State.readEffect_setMode, State.peek_setMode]

theorem State.read16_setMode (s : State) (w : Mode) (addr : Word) :
    (s.setMode w).read16 addr = ((s.read16 addr).1, (s.read16 addr).2.setMode w) := by
  simp only [State.read16, State.read8, State.readEffect_setMode, State.peek_setMode]

/-! Ordinary memory. -/

/-- Ordinary memory is not a claimed register, and is RAM at its own cell (R61, R62). -/
theorem plainAddr_iff (c : Config) (addr : Word) :
    plainAddr c addr = true ↔ windowReg c addr = none ∧ c.backing addr = .ram addr := by
  simp [plainAddr]

/-- A read of ordinary memory returns the byte (R62). -/
theorem State.peek_plain {s : State} {addr : Word} (h : plainAddr s.cfg addr = true) : s.peek addr = s.mem.read addr := by
  simp [State.peek, State.extRead, (plainAddr_iff _ _).mp h]

/-- A read of an address that is not claimed is the environment's (R62). -/
theorem State.read8_unclaimed {s : State} {addr : Word} (h : windowReg s.cfg addr = none) :
    s.read8 addr = (s.extRead addr, s.extReadEffect addr) := by
  simp [State.read8, State.peek, State.readEffect, h]

/-- A read of an address that is neither claimed nor a device's changes nothing (R61, R70). -/
theorem State.readEffect_quiet {s : State} {addr : Word} (h : windowReg s.cfg addr = none)
    (hd : s.cfg.backing addr ≠ .device) : s.readEffect addr = s := by
  unfold State.readEffect State.extReadEffect
  rw [h]
  cases hb : s.cfg.backing addr <;> simp_all

/-- A read of ordinary memory (R62, R70). -/
theorem State.read8_plain {s : State} {addr : Word} (h : plainAddr s.cfg addr = true) :
    s.read8 addr = (s.mem.read addr, s) := by
  have h' := (plainAddr_iff _ _).mp h
  rw [State.read8, State.peek_plain h, State.readEffect_quiet h'.1 (by simp [h'.2])]

/-- A write that reaches a cell (R61, R62). -/
theorem State.write8_ram {s : State} {addr cell : Word} (v : Byte) (h : ramCell s.cfg addr = some cell) :
    s.write8 addr v = { s with mem := s.mem.write cell v } := by
  unfold ramCell at h
  split at h
  · rename_i x hw hb; cases h; simp [State.write8, State.extWrite, hw, hb]
  · cases h

/-- Ordinary memory is its own cell. -/
theorem ramCell_plain {c : Config} {addr : Word} (h : plainAddr c addr = true) : ramCell c addr = some addr := by
  simp [ramCell, (plainAddr_iff _ _).mp h]

/-- A write of ordinary memory (R62). -/
theorem State.write8_plain {s : State} {addr : Word} (v : Byte) (h : plainAddr s.cfg addr = true) :
    s.write8 addr v = { s with mem := s.mem.write addr v } := State.write8_ram v (ramCell_plain h)

/-- A write that reaches no cell leaves the cells alone (R61, R62). -/
theorem State.write8_no_cell {s : State} {addr : Word} (v : Byte) (h : ramCell s.cfg addr = none) :
    (s.write8 addr v).mem = s.mem := by
  unfold State.write8
  split
  · rename_i r _; cases r <;> rfl
  · rename_i hw
    unfold State.extWrite
    split
    · rename_i hb; simp [ramCell, hw, hb] at h
    · rfl
    · rfl
    · rfl

/-- A write changes at most the cell that it reaches. -/
theorem State.write8_mem_other {s : State} {addr b : Word} (v : Byte) (h : ramCell s.cfg addr ≠ some b) :
    (s.write8 addr v).mem.read b = s.mem.read b := by
  cases hp : ramCell s.cfg addr with
  | some cell =>
    have : cell ≠ b := fun e => h (hp.trans (congrArg some e))
    simp [State.write8_ram v hp, this]
  | none => rw [State.write8_no_cell v hp]

/-- A write keeps the canonical form of external memory. -/
theorem State.write8_mem_wf {s : State} (addr : Word) (v : Byte) (h : s.mem.wf = true) :
    (s.write8 addr v).mem.wf = true := by
  cases hp : ramCell s.cfg addr with
  | some cell => simpa [State.write8_ram v hp] using Memory.wf_write cell v h
  | none => rwa [State.write8_no_cell v hp]

/-- A write of an address that is not claimed leaves the peripherals alone (R62). -/
theorem State.write8_unclaimed {s : State} {addr : Word} (v : Byte) (h : windowReg s.cfg addr = none) :
    (s.write8 addr v).tim = s.tim ∧ (s.write8 addr v).sci = s.sci := by
  unfold State.write8
  rw [h]
  simp

/-! No access moves an input line, and only an access to a device is recorded. -/

@[simp] theorem Timer.clearIfArmed_tinLine (t : Timer) (f : TFlag) : (t.clearIfArmed f).tinLine = t.tinLine := by
  unfold Timer.clearIfArmed
  split <;> rfl

@[simp] theorem State.readEffect_tinLine (s : State) (addr : Word) : (s.readEffect addr).tim.tinLine = s.tim.tinLine := by
  unfold State.readEffect
  cases windowReg s.cfg addr with
  | none =>
    simp only [State.extReadEffect, State.logDevice]
    split <;> rfl
  | some r =>
    cases r <;> simp only [State.windowReadEffect, Timer.armFlags, Timer.clearIfArmed_tinLine]
    split <;> simp

@[simp] theorem State.readEffect_rxdLine (s : State) (addr : Word) : (s.readEffect addr).sci.rxdLine = s.sci.rxdLine := by
  unfold State.readEffect
  cases windowReg s.cfg addr with
  | none =>
    simp only [State.extReadEffect, State.logDevice]
    split <;> rfl
  | some r =>
    cases r <;> simp only [State.windowReadEffect, Sci.takeRdr]
    split <;> rfl

@[simp] theorem State.write8_tinLine (s : State) (addr : Word) (v : Byte) :
    (s.write8 addr v).tim.tinLine = s.tim.tinLine := by
  unfold State.write8
  cases windowReg s.cfg addr with
  | none =>
    simp only [State.extWrite, State.logDevice]
    split <;> rfl
  | some r =>
    cases r <;> simp [State.windowWrite, Timer.writeTcsr, Timer.writeCh, Timer.writeCl, Timer.writeOcrh, Timer.writeOcrl]

@[simp] theorem State.write8_rxdLine (s : State) (addr : Word) (v : Byte) :
    (s.write8 addr v).sci.rxdLine = s.sci.rxdLine := by
  unfold State.write8
  cases windowReg s.cfg addr with
  | none =>
    simp only [State.extWrite, State.logDevice]
    split <;> rfl
  | some r =>
    cases r <;> simp only [State.windowWrite, Sci.writeRmcr, Sci.writeTrcsr, Sci.writeTdr]
    split <;> split <;> split <;> rfl

theorem State.readEffect_devLog {s : State} {addr : Word} (h : deviceAddr s.cfg addr = false) :
    (s.readEffect addr).devLog = s.devLog := by
  unfold State.readEffect
  cases hw : windowReg s.cfg addr with
  | none =>
    simp only [deviceAddr, hw, Option.isNone_none, Bool.true_and, beq_eq_false_iff_ne, ne_eq] at h
    simp only [State.extReadEffect, State.logDevice]
    split <;> simp_all
  | some r =>
    cases r <;> simp only [State.windowReadEffect]
    split <;> rfl

theorem State.write8_devLog {s : State} {addr : Word} (v : Byte) (h : deviceAddr s.cfg addr = false) :
    (s.write8 addr v).devLog = s.devLog := by
  unfold State.write8
  cases hw : windowReg s.cfg addr with
  | none =>
    simp only [deviceAddr, hw, Option.isNone_none, Bool.true_and, beq_eq_false_iff_ne, ne_eq] at h
    simp only [State.extWrite, State.logDevice]
    split <;> simp_all
  | some r => cases r <;> rfl

/-! The stack (R27). -/

theorem State.setSp_setSp (s : State) (v w : Word) : (s.setSp v).setSp w = s.setSp w := rfl

/-- What a push does: one write at `SP`, and `SP` one lower. -/
theorem State.push8_eq (s : State) (v : Byte) : s.push8 v = (s.write8 s.sp v).setSp (s.sp - 1#16) := by
  simp [State.push8]

/-- What a pull does: `SP` one higher, and one read there. -/
theorem State.pull8_eq (s : State) :
    s.pull8 = (s.peek (s.sp + 1#16), (s.readEffect (s.sp + 1#16)).setSp (s.sp + 1#16)) := by
  simp only [State.pull8, State.read8, State.setSp_sp, State.peek_setSp, State.readEffect_setSp]

theorem writeDown_setSp (l : List Byte) : ∀ (s : State) (w addr : Word),
    writeDown (s.setSp w) addr l = (writeDown s addr l).setSp w := by
  induction l with
  | nil => intros; rfl
  | cons v l ih => intros; simp only [writeDown, State.write8_setSp, ih]

theorem readUp_setPc (n : Nat) : ∀ (s : State) (w addr : Word),
    readUp (s.setPc w) addr n = ((readUp s addr n).1, (readUp s addr n).2.setPc w) := by
  induction n with
  | zero => intros; rfl
  | succ n ih => intros; simp only [readUp, State.read8_setPc, ih]

/-- Writes change nothing but the timer, the UART, external memory and the log of devices. -/
theorem writeDown_frame (l : List Byte) : ∀ (s : State) (addr : Word),
    writeDown s addr l =
      { s with
        tim := (writeDown s addr l).tim, sci := (writeDown s addr l).sci, mem := (writeDown s addr l).mem
        devLog := (writeDown s addr l).devLog } := by
  have key : ∀ (s : State) (addr : Word) (v : Byte), s.write8 addr v =
      { s with
        tim := (s.write8 addr v).tim, sci := (s.write8 addr v).sci, mem := (s.write8 addr v).mem
        devLog := (s.write8 addr v).devLog } := by
    intro s addr v
    unfold State.write8
    split
    · rename_i r _; cases r <;> rfl
    · unfold State.extWrite; split <;> rfl
  induction l with
  | nil => intros; rfl
  | cons v l ih =>
    intro s addr
    simp only [writeDown]
    rw [ih (s.write8 addr v), key s addr v]

/-- What the seven pushes of an entry do (R376). -/
theorem State.pushFrame_eq (s : State) : s.pushFrame = (writeDown s s.sp (frame s)).setSp (s.sp - 7#16) := by
  simp only [State.pushFrame, State.push16, State.push8_eq, State.write8_setSp, State.setSp_sp,
    BitVec.sub_sub, State.setSp_setSp, frame, writeDown]
  rfl

/-- What an entry does, once: the frame, the mask, the vector (R376). -/
theorem State.interruptEntry_eq (s : State) (vec : Word) : s.interruptEntry vec = entered s vec := by
  have hcc : (writeDown s s.sp (frame s)).cc = s.cc := by rw [writeDown_frame]
  simp only [State.interruptEntry, State.pushFrame_eq, State.jumpVector, State.read16_setCc, State.read16_setSp,
    State.setSp_cc, hcc]
  rfl

end Sys2Proof.Machine
end

