-- ==== Sys2Proof/Laws/PerInstr.lean ====
section
/-!
SUPPORT. Statements about every instruction as syntax, one lemma per constructor.

`SlotOf.Statement i`: the slot that R97 lists at the opcode byte of `i` holds `i` itself, with as many operand bytes as `i`
has (R90, R91), and with a declared cost of 1 to 12 cycles (R98).
-/

namespace Sys2Proof.Laws

/-- The two halves of a word make the word. -/
theorem joinBytes_hi_lo (w : Word) : joinBytes (hiByte w) (loByte w) = w := by
  unfold joinBytes hiByte loByte
  ext i hi
  simp
  grind

/-- The high byte of a joined word. -/
theorem hiByte_joinBytes (h l : Byte) : hiByte (joinBytes h l) = h := by
  unfold hiByte joinBytes
  ext i hi
  simp
  try grind

/-- The low byte of a joined word. -/
theorem loByte_joinBytes (h l : Byte) : loByte (joinBytes h l) = l := by
  unfold loByte joinBytes
  ext i hi
  simp
  try grind

/-- Whether a slot makes an instruction from the operand bytes that its encoding has. -/
def SlotOf.Holds (r : Row) (i : Instr) : Prop :=
  r.slot.operands (encode i).tail = some (i, []) ∧ r.slot.length = i.length ∧ 1 ≤ r.cycles ∧ r.cycles ≤ 12

/-- The slot at the opcode byte of an instruction holds that instruction (R90, R91, R97, R98). -/
def SlotOf.Statement (i : Instr) : Prop := ∃ r, rowOf i.opcode = some r ∧ SlotOf.Holds r i

theorem SlotOf.illegal00 : SlotOf.Statement .illegal00 :=
  ⟨⟨0x00, 5, .illegal .illegal00⟩, rfl, rfl, rfl, by decide, by decide⟩
theorem SlotOf.nop : SlotOf.Statement .nop :=
  ⟨⟨0x01, 1, .inh .nop⟩, rfl, rfl, rfl, by decide, by decide⟩
theorem SlotOf.illegal02 : SlotOf.Statement .illegal02 :=
  ⟨⟨0x02, 5, .illegal .illegal02⟩, rfl, rfl, rfl, by decide, by decide⟩
theorem SlotOf.illegal03 : SlotOf.Statement .illegal03 :=
  ⟨⟨0x03, 5, .illegal .illegal03⟩, rfl, rfl, rfl, by decide, by decide⟩
theorem SlotOf.lsrd : SlotOf.Statement .lsrd :=
  ⟨⟨0x04, 1, .inh .lsrd⟩, rfl, rfl, rfl, by decide, by decide⟩
theorem SlotOf.asld : SlotOf.Statement .asld :=
  ⟨⟨0x05, 1, .inh .asld⟩, rfl, rfl, rfl, by decide, by decide⟩
theorem SlotOf.tap : SlotOf.Statement .tap :=
  ⟨⟨0x06, 1, .inh .tap⟩, rfl, rfl, rfl, by decide, by decide⟩
theorem SlotOf.tpa : SlotOf.Statement .tpa :=
  ⟨⟨0x07, 1, .inh .tpa⟩, rfl, rfl, rfl, by decide, by decide⟩
theorem SlotOf.inx : SlotOf.Statement .inx :=
  ⟨⟨0x08, 1, .inh .inx⟩, rfl, rfl, rfl, by decide, by decide⟩
theorem SlotOf.dex : SlotOf.Statement .dex :=
  ⟨⟨0x09, 1, .inh .dex⟩, rfl, rfl, rfl, by decide, by decide⟩
theorem SlotOf.clv : SlotOf.Statement .clv :=
  ⟨⟨0x0A, 1, .inh .clv⟩, rfl, rfl, rfl, by decide, by decide⟩
theorem SlotOf.sev : SlotOf.Statement .sev :=
  ⟨⟨0x0B, 1, .inh .sev⟩, rfl, rfl, rfl, by decide, by decide⟩
theorem SlotOf.clc : SlotOf.Statement .clc :=
  ⟨⟨0x0C, 1, .inh .clc⟩, rfl, rfl, rfl, by decide, by decide⟩
theorem SlotOf.sec : SlotOf.Statement .sec :=
  ⟨⟨0x0D, 1, .inh .sec⟩, rfl, rfl, rfl, by decide, by decide⟩
theorem SlotOf.cli : SlotOf.Statement .cli :=
  ⟨⟨0x0E, 1, .inh .cli⟩, rfl, rfl, rfl, by decide, by decide⟩
theorem SlotOf.sei : SlotOf.Statement .sei :=
  ⟨⟨0x0F, 1, .inh .sei⟩, rfl, rfl, rfl, by decide, by decide⟩
theorem SlotOf.daa : SlotOf.Statement .daa :=
  ⟨⟨0x19, 2, .inh .daa⟩, rfl, rfl, rfl, by decide, by decide⟩
theorem SlotOf.slp : SlotOf.Statement .slp :=
  ⟨⟨0x1A, 4, .inh .slp⟩, rfl, rfl, rfl, by decide, by decide⟩
theorem SlotOf.bra (rr : Byte) : SlotOf.Statement (.bra rr) :=
  ⟨⟨0x20, 3, .rel .bra⟩, rfl, rfl, rfl, by decide, by decide⟩
theorem SlotOf.brn (rr : Byte) : SlotOf.Statement (.brn rr) :=
  ⟨⟨0x21, 3, .rel .brn⟩, rfl, rfl, rfl, by decide, by decide⟩
theorem SlotOf.bhi (rr : Byte) : SlotOf.Statement (.bhi rr) :=
  ⟨⟨0x22, 3, .rel .bhi⟩, rfl, rfl, rfl, by decide, by decide⟩
theorem SlotOf.bls (rr : Byte) : SlotOf.Statement (.bls rr) :=
  ⟨⟨0x23, 3, .rel .bls⟩, rfl, rfl, rfl, by decide, by decide⟩
theorem SlotOf.bcc (rr : Byte) : SlotOf.Statement (.bcc rr) :=
  ⟨⟨0x24, 3, .rel .bcc⟩, rfl, rfl, rfl, by decide, by decide⟩
theorem SlotOf.bcs (rr : Byte) : SlotOf.Statement (.bcs rr) :=
  ⟨⟨0x25, 3, .rel .bcs⟩, rfl, rfl, rfl, by decide, by decide⟩
theorem SlotOf.bne (rr : Byte) : SlotOf.Statement (.bne rr) :=
  ⟨⟨0x26, 3, .rel .bne⟩, rfl, rfl, rfl, by decide, by decide⟩
theorem SlotOf.beq (rr : Byte) : SlotOf.Statement (.beq rr) :=
  ⟨⟨0x27, 3, .rel .beq⟩, rfl, rfl, rfl, by decide, by decide⟩
theorem SlotOf.bvc (rr : Byte) : SlotOf.Statement (.bvc rr) :=
  ⟨⟨0x28, 3, .rel .bvc⟩, rfl, rfl, rfl, by decide, by decide⟩
theorem SlotOf.bvs (rr : Byte) : SlotOf.Statement (.bvs rr) :=
  ⟨⟨0x29, 3, .rel .bvs⟩, rfl, rfl, rfl, by decide, by decide⟩
theorem SlotOf.bpl (rr : Byte) : SlotOf.Statement (.bpl rr) :=
  ⟨⟨0x2A, 3, .rel .bpl⟩, rfl, rfl, rfl, by decide, by decide⟩
theorem SlotOf.bmi (rr : Byte) : SlotOf.Statement (.bmi rr) :=
  ⟨⟨0x2B, 3, .rel .bmi⟩, rfl, rfl, rfl, by decide, by decide⟩
theorem SlotOf.bge (rr : Byte) : SlotOf.Statement (.bge rr) :=
  ⟨⟨0x2C, 3, .rel .bge⟩, rfl, rfl, rfl, by decide, by decide⟩
theorem SlotOf.blt (rr : Byte) : SlotOf.Statement (.blt rr) :=
  ⟨⟨0x2D, 3, .rel .blt⟩, rfl, rfl, rfl, by decide, by decide⟩
theorem SlotOf.bgt (rr : Byte) : SlotOf.Statement (.bgt rr) :=
  ⟨⟨0x2E, 3, .rel .bgt⟩, rfl, rfl, rfl, by decide, by decide⟩
theorem SlotOf.ble (rr : Byte) : SlotOf.Statement (.ble rr) :=
  ⟨⟨0x2F, 3, .rel .ble⟩, rfl, rfl, rfl, by decide, by decide⟩
theorem SlotOf.rts : SlotOf.Statement .rts :=
  ⟨⟨0x39, 5, .inh .rts⟩, rfl, rfl, rfl, by decide, by decide⟩
theorem SlotOf.rti : SlotOf.Statement .rti :=
  ⟨⟨0x3B, 10, .inh .rti⟩, rfl, rfl, rfl, by decide, by decide⟩
theorem SlotOf.mul : SlotOf.Statement .mul :=
  ⟨⟨0x3D, 7, .inh .mul⟩, rfl, rfl, rfl, by decide, by decide⟩
theorem SlotOf.wai : SlotOf.Statement .wai :=
  ⟨⟨0x3E, 9, .inh .wai⟩, rfl, rfl, rfl, by decide, by decide⟩
theorem SlotOf.lsra : SlotOf.Statement .lsra :=
  ⟨⟨0x44, 1, .inh .lsra⟩, rfl, rfl, rfl, by decide, by decide⟩
theorem SlotOf.rora : SlotOf.Statement .rora :=
  ⟨⟨0x46, 1, .inh .rora⟩, rfl, rfl, rfl, by decide, by decide⟩
theorem SlotOf.asra : SlotOf.Statement .asra :=
  ⟨⟨0x47, 1, .inh .asra⟩, rfl, rfl, rfl, by decide, by decide⟩
theorem SlotOf.asla : SlotOf.Statement .asla :=
  ⟨⟨0x48, 1, .inh .asla⟩, rfl, rfl, rfl, by decide, by decide⟩
theorem SlotOf.rola : SlotOf.Statement .rola :=
  ⟨⟨0x49, 1, .inh .rola⟩, rfl, rfl, rfl, by decide, by decide⟩
theorem SlotOf.deca : SlotOf.Statement .deca :=
  ⟨⟨0x4A, 1, .inh .deca⟩, rfl, rfl, rfl, by decide, by decide⟩
theorem SlotOf.inca : SlotOf.Statement .inca :=
  ⟨⟨0x4C, 1, .inh .inca⟩, rfl, rfl, rfl, by decide, by decide⟩
theorem SlotOf.lsrb : SlotOf.Statement .lsrb :=
  ⟨⟨0x54, 1, .inh .lsrb⟩, rfl, rfl, rfl, by decide, by decide⟩
theorem SlotOf.rorb : SlotOf.Statement .rorb :=
  ⟨⟨0x56, 1, .inh .rorb⟩, rfl, rfl, rfl, by decide, by decide⟩
theorem SlotOf.asrb : SlotOf.Statement .asrb :=
  ⟨⟨0x57, 1, .inh .asrb⟩, rfl, rfl, rfl, by decide, by decide⟩
theorem SlotOf.aslb : SlotOf.Statement .aslb :=
  ⟨⟨0x58, 1, .inh .aslb⟩, rfl, rfl, rfl, by decide, by decide⟩
theorem SlotOf.rolb : SlotOf.Statement .rolb :=
  ⟨⟨0x59, 1, .inh .rolb⟩, rfl, rfl, rfl, by decide, by decide⟩
theorem SlotOf.decb : SlotOf.Statement .decb :=
  ⟨⟨0x5A, 1, .inh .decb⟩, rfl, rfl, rfl, by decide, by decide⟩
theorem SlotOf.incb : SlotOf.Statement .incb :=
  ⟨⟨0x5C, 1, .inh .incb⟩, rfl, rfl, rfl, by decide, by decide⟩
theorem SlotOf.aimIdx (ii : Byte) (ff : Byte) : SlotOf.Statement (.aimIdx ii ff) :=
  ⟨⟨0x61, 7, .imx .aimIdx⟩, rfl, rfl, rfl, by decide, by decide⟩
theorem SlotOf.oimIdx (ii : Byte) (ff : Byte) : SlotOf.Statement (.oimIdx ii ff) :=
  ⟨⟨0x62, 7, .imx .oimIdx⟩, rfl, rfl, rfl, by decide, by decide⟩
theorem SlotOf.lsrIdx (ff : Byte) : SlotOf.Statement (.lsrIdx ff) :=
  ⟨⟨0x64, 6, .idx .lsrIdx⟩, rfl, rfl, rfl, by decide, by decide⟩
theorem SlotOf.eimIdx (ii : Byte) (ff : Byte) : SlotOf.Statement (.eimIdx ii ff) :=
  ⟨⟨0x65, 7, .imx .eimIdx⟩, rfl, rfl, rfl, by decide, by decide⟩
theorem SlotOf.rorIdx (ff : Byte) : SlotOf.Statement (.rorIdx ff) :=
  ⟨⟨0x66, 6, .idx .rorIdx⟩, rfl, rfl, rfl, by decide, by decide⟩
theorem SlotOf.asrIdx (ff : Byte) : SlotOf.Statement (.asrIdx ff) :=
  ⟨⟨0x67, 6, .idx .asrIdx⟩, rfl, rfl, rfl, by decide, by decide⟩
theorem SlotOf.aslIdx (ff : Byte) : SlotOf.Statement (.aslIdx ff) :=
  ⟨⟨0x68, 6, .idx .aslIdx⟩, rfl, rfl, rfl, by decide, by decide⟩
theorem SlotOf.rolIdx (ff : Byte) : SlotOf.Statement (.rolIdx ff) :=
  ⟨⟨0x69, 6, .idx .rolIdx⟩, rfl, rfl, rfl, by decide, by decide⟩
theorem SlotOf.timIdx (ii : Byte) (ff : Byte) : SlotOf.Statement (.timIdx ii ff) :=
  ⟨⟨0x6B, 5, .imx .timIdx⟩, rfl, rfl, rfl, by decide, by decide⟩
theorem SlotOf.jmpIdx (ff : Byte) : SlotOf.Statement (.jmpIdx ff) :=
  ⟨⟨0x6E, 3, .idx .jmpIdx⟩, rfl, rfl, rfl, by decide, by decide⟩
theorem SlotOf.aimDir (ii : Byte) (dd : Byte) : SlotOf.Statement (.aimDir ii dd) :=
  ⟨⟨0x71, 6, .imd .aimDir⟩, rfl, rfl, rfl, by decide, by decide⟩
theorem SlotOf.oimDir (ii : Byte) (dd : Byte) : SlotOf.Statement (.oimDir ii dd) :=
  ⟨⟨0x72, 6, .imd .oimDir⟩, rfl, rfl, rfl, by decide, by decide⟩
theorem SlotOf.lsrExt (hhll : Word) : SlotOf.Statement (.lsrExt hhll) :=
  ⟨⟨0x74, 6, .ext .lsrExt⟩, rfl, congrArg some (congrArg (fun w => (Instr.lsrExt w, [])) (joinBytes_hi_lo hhll)), rfl, by decide, by decide⟩
theorem SlotOf.eimDir (ii : Byte) (dd : Byte) : SlotOf.Statement (.eimDir ii dd) :=
  ⟨⟨0x75, 6, .imd .eimDir⟩, rfl, rfl, rfl, by decide, by decide⟩
theorem SlotOf.rorExt (hhll : Word) : SlotOf.Statement (.rorExt hhll) :=
  ⟨⟨0x76, 6, .ext .rorExt⟩, rfl, congrArg some (congrArg (fun w => (Instr.rorExt w, [])) (joinBytes_hi_lo hhll)), rfl, by decide, by decide⟩
theorem SlotOf.asrExt (hhll : Word) : SlotOf.Statement (.asrExt hhll) :=
  ⟨⟨0x77, 6, .ext .asrExt⟩, rfl, congrArg some (congrArg (fun w => (Instr.asrExt w, [])) (joinBytes_hi_lo hhll)), rfl, by decide, by decide⟩
theorem SlotOf.aslExt (hhll : Word) : SlotOf.Statement (.aslExt hhll) :=
  ⟨⟨0x78, 6, .ext .aslExt⟩, rfl, congrArg some (congrArg (fun w => (Instr.aslExt w, [])) (joinBytes_hi_lo hhll)), rfl, by decide, by decide⟩
theorem SlotOf.rolExt (hhll : Word) : SlotOf.Statement (.rolExt hhll) :=
  ⟨⟨0x79, 6, .ext .rolExt⟩, rfl, congrArg some (congrArg (fun w => (Instr.rolExt w, [])) (joinBytes_hi_lo hhll)), rfl, by decide, by decide⟩
theorem SlotOf.timDir (ii : Byte) (dd : Byte) : SlotOf.Statement (.timDir ii dd) :=
  ⟨⟨0x7B, 4, .imd .timDir⟩, rfl, rfl, rfl, by decide, by decide⟩
theorem SlotOf.jmpExt (hhll : Word) : SlotOf.Statement (.jmpExt hhll) :=
  ⟨⟨0x7E, 3, .ext .jmpExt⟩, rfl, congrArg some (congrArg (fun w => (Instr.jmpExt w, [])) (joinBytes_hi_lo hhll)), rfl, by decide, by decide⟩
theorem SlotOf.subaImm (ii : Byte) : SlotOf.Statement (.subaImm ii) :=
  ⟨⟨0x80, 2, .imm8 .subaImm⟩, rfl, rfl, rfl, by decide, by decide⟩
theorem SlotOf.cmpaImm (ii : Byte) : SlotOf.Statement (.cmpaImm ii) :=
  ⟨⟨0x81, 2, .imm8 .cmpaImm⟩, rfl, rfl, rfl, by decide, by decide⟩
theorem SlotOf.sbcaImm (ii : Byte) : SlotOf.Statement (.sbcaImm ii) :=
  ⟨⟨0x82, 2, .imm8 .sbcaImm⟩, rfl, rfl, rfl, by decide, by decide⟩
theorem SlotOf.subdImm (jjkk : Word) : SlotOf.Statement (.subdImm jjkk) :=
  ⟨⟨0x83, 3, .imm16 .subdImm⟩, rfl, congrArg some (congrArg (fun w => (Instr.subdImm w, [])) (joinBytes_hi_lo jjkk)), rfl, by decide, by decide⟩
theorem SlotOf.ldaaImm (ii : Byte) : SlotOf.Statement (.ldaaImm ii) :=
  ⟨⟨0x86, 2, .imm8 .ldaaImm⟩, rfl, rfl, rfl, by decide, by decide⟩
theorem SlotOf.adcaImm (ii : Byte) : SlotOf.Statement (.adcaImm ii) :=
  ⟨⟨0x89, 2, .imm8 .adcaImm⟩, rfl, rfl, rfl, by decide, by decide⟩
theorem SlotOf.addaImm (ii : Byte) : SlotOf.Statement (.addaImm ii) :=
  ⟨⟨0x8B, 2, .imm8 .addaImm⟩, rfl, rfl, rfl, by decide, by decide⟩
theorem SlotOf.bsr (rr : Byte) : SlotOf.Statement (.bsr rr) :=
  ⟨⟨0x8D, 5, .rel .bsr⟩, rfl, rfl, rfl, by decide, by decide⟩
theorem SlotOf.ldsImm (jjkk : Word) : SlotOf.Statement (.ldsImm jjkk) :=
  ⟨⟨0x8E, 3, .imm16 .ldsImm⟩, rfl, congrArg some (congrArg (fun w => (Instr.ldsImm w, [])) (joinBytes_hi_lo jjkk)), rfl, by decide, by decide⟩
theorem SlotOf.subaDir (dd : Byte) : SlotOf.Statement (.subaDir dd) :=
  ⟨⟨0x90, 3, .dir .subaDir⟩, rfl, rfl, rfl, by decide, by decide⟩
theorem SlotOf.cmpaDir (dd : Byte) : SlotOf.Statement (.cmpaDir dd) :=
  ⟨⟨0x91, 3, .dir .cmpaDir⟩, rfl, rfl, rfl, by decide, by decide⟩
theorem SlotOf.sbcaDir (dd : Byte) : SlotOf.Statement (.sbcaDir dd) :=
  ⟨⟨0x92, 3, .dir .sbcaDir⟩, rfl, rfl, rfl, by decide, by decide⟩
theorem SlotOf.subdDir (dd : Byte) : SlotOf.Statement (.subdDir dd) :=
  ⟨⟨0x93, 4, .dir .subdDir⟩, rfl, rfl, rfl, by decide, by decide⟩
theorem SlotOf.ldaaDir (dd : Byte) : SlotOf.Statement (.ldaaDir dd) :=
  ⟨⟨0x96, 3, .dir .ldaaDir⟩, rfl, rfl, rfl, by decide, by decide⟩
theorem SlotOf.staaDir (dd : Byte) : SlotOf.Statement (.staaDir dd) :=
  ⟨⟨0x97, 3, .dir .staaDir⟩, rfl, rfl, rfl, by decide, by decide⟩
theorem SlotOf.adcaDir (dd : Byte) : SlotOf.Statement (.adcaDir dd) :=
  ⟨⟨0x99, 3, .dir .adcaDir⟩, rfl, rfl, rfl, by decide, by decide⟩
theorem SlotOf.addaDir (dd : Byte) : SlotOf.Statement (.addaDir dd) :=
  ⟨⟨0x9B, 3, .dir .addaDir⟩, rfl, rfl, rfl, by decide, by decide⟩
theorem SlotOf.jsrDir (dd : Byte) : SlotOf.Statement (.jsrDir dd) :=
  ⟨⟨0x9D, 5, .dir .jsrDir⟩, rfl, rfl, rfl, by decide, by decide⟩
theorem SlotOf.ldsDir (dd : Byte) : SlotOf.Statement (.ldsDir dd) :=
  ⟨⟨0x9E, 4, .dir .ldsDir⟩, rfl, rfl, rfl, by decide, by decide⟩
theorem SlotOf.subaIdx (ff : Byte) : SlotOf.Statement (.subaIdx ff) :=
  ⟨⟨0xA0, 4, .idx .subaIdx⟩, rfl, rfl, rfl, by decide, by decide⟩
theorem SlotOf.cmpaIdx (ff : Byte) : SlotOf.Statement (.cmpaIdx ff) :=
  ⟨⟨0xA1, 4, .idx .cmpaIdx⟩, rfl, rfl, rfl, by decide, by decide⟩
theorem SlotOf.sbcaIdx (ff : Byte) : SlotOf.Statement (.sbcaIdx ff) :=
  ⟨⟨0xA2, 4, .idx .sbcaIdx⟩, rfl, rfl, rfl, by decide, by decide⟩
theorem SlotOf.subdIdx (ff : Byte) : SlotOf.Statement (.subdIdx ff) :=
  ⟨⟨0xA3, 5, .idx .subdIdx⟩, rfl, rfl, rfl, by decide, by decide⟩
theorem SlotOf.ldaaIdx (ff : Byte) : SlotOf.Statement (.ldaaIdx ff) :=
  ⟨⟨0xA6, 4, .idx .ldaaIdx⟩, rfl, rfl, rfl, by decide, by decide⟩
theorem SlotOf.staaIdx (ff : Byte) : SlotOf.Statement (.staaIdx ff) :=
  ⟨⟨0xA7, 4, .idx .staaIdx⟩, rfl, rfl, rfl, by decide, by decide⟩
theorem SlotOf.adcaIdx (ff : Byte) : SlotOf.Statement (.adcaIdx ff) :=
  ⟨⟨0xA9, 4, .idx .adcaIdx⟩, rfl, rfl, rfl, by decide, by decide⟩
theorem SlotOf.addaIdx (ff : Byte) : SlotOf.Statement (.addaIdx ff) :=
  ⟨⟨0xAB, 4, .idx .addaIdx⟩, rfl, rfl, rfl, by decide, by decide⟩
theorem SlotOf.jsrIdx (ff : Byte) : SlotOf.Statement (.jsrIdx ff) :=
  ⟨⟨0xAD, 5, .idx .jsrIdx⟩, rfl, rfl, rfl, by decide, by decide⟩
theorem SlotOf.ldsIdx (ff : Byte) : SlotOf.Statement (.ldsIdx ff) :=
  ⟨⟨0xAE, 5, .idx .ldsIdx⟩, rfl, rfl, rfl, by decide, by decide⟩
theorem SlotOf.subaExt (hhll : Word) : SlotOf.Statement (.subaExt hhll) :=
  ⟨⟨0xB0, 4, .ext .subaExt⟩, rfl, congrArg some (congrArg (fun w => (Instr.subaExt w, [])) (joinBytes_hi_lo hhll)), rfl, by decide, by decide⟩
theorem SlotOf.cmpaExt (hhll : Word) : SlotOf.Statement (.cmpaExt hhll) :=
  ⟨⟨0xB1, 4, .ext .cmpaExt⟩, rfl, congrArg some (congrArg (fun w => (Instr.cmpaExt w, [])) (joinBytes_hi_lo hhll)), rfl, by decide, by decide⟩
theorem SlotOf.sbcaExt (hhll : Word) : SlotOf.Statement (.sbcaExt hhll) :=
  ⟨⟨0xB2, 4, .ext .sbcaExt⟩, rfl, congrArg some (congrArg (fun w => (Instr.sbcaExt w, [])) (joinBytes_hi_lo hhll)), rfl, by decide, by decide⟩
theorem SlotOf.subdExt (hhll : Word) : SlotOf.Statement (.subdExt hhll) :=
  ⟨⟨0xB3, 5, .ext .subdExt⟩, rfl, congrArg some (congrArg (fun w => (Instr.subdExt w, [])) (joinBytes_hi_lo hhll)), rfl, by decide, by decide⟩
theorem SlotOf.ldaaExt (hhll : Word) : SlotOf.Statement (.ldaaExt hhll) :=
  ⟨⟨0xB6, 4, .ext .ldaaExt⟩, rfl, congrArg some (congrArg (fun w => (Instr.ldaaExt w, [])) (joinBytes_hi_lo hhll)), rfl, by decide, by decide⟩
theorem SlotOf.staaExt (hhll : Word) : SlotOf.Statement (.staaExt hhll) :=
  ⟨⟨0xB7, 4, .ext .staaExt⟩, rfl, congrArg some (congrArg (fun w => (Instr.staaExt w, [])) (joinBytes_hi_lo hhll)), rfl, by decide, by decide⟩
theorem SlotOf.adcaExt (hhll : Word) : SlotOf.Statement (.adcaExt hhll) :=
  ⟨⟨0xB9, 4, .ext .adcaExt⟩, rfl, congrArg some (congrArg (fun w => (Instr.adcaExt w, [])) (joinBytes_hi_lo hhll)), rfl, by decide, by decide⟩
theorem SlotOf.addaExt (hhll : Word) : SlotOf.Statement (.addaExt hhll) :=
  ⟨⟨0xBB, 4, .ext .addaExt⟩, rfl, congrArg some (congrArg (fun w => (Instr.addaExt w, [])) (joinBytes_hi_lo hhll)), rfl, by decide, by decide⟩
theorem SlotOf.jsrExt (hhll : Word) : SlotOf.Statement (.jsrExt hhll) :=
  ⟨⟨0xBD, 6, .ext .jsrExt⟩, rfl, congrArg some (congrArg (fun w => (Instr.jsrExt w, [])) (joinBytes_hi_lo hhll)), rfl, by decide, by decide⟩
theorem SlotOf.ldsExt (hhll : Word) : SlotOf.Statement (.ldsExt hhll) :=
  ⟨⟨0xBE, 5, .ext .ldsExt⟩, rfl, congrArg some (congrArg (fun w => (Instr.ldsExt w, [])) (joinBytes_hi_lo hhll)), rfl, by decide, by decide⟩
theorem SlotOf.subbImm (ii : Byte) : SlotOf.Statement (.subbImm ii) :=
  ⟨⟨0xC0, 2, .imm8 .subbImm⟩, rfl, rfl, rfl, by decide, by decide⟩
theorem SlotOf.cmpbImm (ii : Byte) : SlotOf.Statement (.cmpbImm ii) :=
  ⟨⟨0xC1, 2, .imm8 .cmpbImm⟩, rfl, rfl, rfl, by decide, by decide⟩
theorem SlotOf.sbcbImm (ii : Byte) : SlotOf.Statement (.sbcbImm ii) :=
  ⟨⟨0xC2, 2, .imm8 .sbcbImm⟩, rfl, rfl, rfl, by decide, by decide⟩
theorem SlotOf.adddImm (jjkk : Word) : SlotOf.Statement (.adddImm jjkk) :=
  ⟨⟨0xC3, 3, .imm16 .adddImm⟩, rfl, congrArg some (congrArg (fun w => (Instr.adddImm w, [])) (joinBytes_hi_lo jjkk)), rfl, by decide, by decide⟩
theorem SlotOf.ldabImm (ii : Byte) : SlotOf.Statement (.ldabImm ii) :=
  ⟨⟨0xC6, 2, .imm8 .ldabImm⟩, rfl, rfl, rfl, by decide, by decide⟩
theorem SlotOf.adcbImm (ii : Byte) : SlotOf.Statement (.adcbImm ii) :=
  ⟨⟨0xC9, 2, .imm8 .adcbImm⟩, rfl, rfl, rfl, by decide, by decide⟩
theorem SlotOf.addbImm (ii : Byte) : SlotOf.Statement (.addbImm ii) :=
  ⟨⟨0xCB, 2, .imm8 .addbImm⟩, rfl, rfl, rfl, by decide, by decide⟩
theorem SlotOf.lddImm (jjkk : Word) : SlotOf.Statement (.lddImm jjkk) :=
  ⟨⟨0xCC, 3, .imm16 .lddImm⟩, rfl, congrArg some (congrArg (fun w => (Instr.lddImm w, [])) (joinBytes_hi_lo jjkk)), rfl, by decide, by decide⟩
theorem SlotOf.ldxImm (jjkk : Word) : SlotOf.Statement (.ldxImm jjkk) :=
  ⟨⟨0xCE, 3, .imm16 .ldxImm⟩, rfl, congrArg some (congrArg (fun w => (Instr.ldxImm w, [])) (joinBytes_hi_lo jjkk)), rfl, by decide, by decide⟩
theorem SlotOf.subbDir (dd : Byte) : SlotOf.Statement (.subbDir dd) :=
  ⟨⟨0xD0, 3, .dir .subbDir⟩, rfl, rfl, rfl, by decide, by decide⟩
theorem SlotOf.cmpbDir (dd : Byte) : SlotOf.Statement (.cmpbDir dd) :=
  ⟨⟨0xD1, 3, .dir .cmpbDir⟩, rfl, rfl, rfl, by decide, by decide⟩
theorem SlotOf.sbcbDir (dd : Byte) : SlotOf.Statement (.sbcbDir dd) :=
  ⟨⟨0xD2, 3, .dir .sbcbDir⟩, rfl, rfl, rfl, by decide, by decide⟩
theorem SlotOf.adddDir (dd : Byte) : SlotOf.Statement (.adddDir dd) :=
  ⟨⟨0xD3, 4, .dir .adddDir⟩, rfl, rfl, rfl, by decide, by decide⟩
theorem SlotOf.ldabDir (dd : Byte) : SlotOf.Statement (.ldabDir dd) :=
  ⟨⟨0xD6, 3, .dir .ldabDir⟩, rfl, rfl, rfl, by decide, by decide⟩
theorem SlotOf.stabDir (dd : Byte) : SlotOf.Statement (.stabDir dd) :=
  ⟨⟨0xD7, 3, .dir .stabDir⟩, rfl, rfl, rfl, by decide, by decide⟩
theorem SlotOf.adcbDir (dd : Byte) : SlotOf.Statement (.adcbDir dd) :=
  ⟨⟨0xD9, 3, .dir .adcbDir⟩, rfl, rfl, rfl, by decide, by decide⟩
theorem SlotOf.addbDir (dd : Byte) : SlotOf.Statement (.addbDir dd) :=
  ⟨⟨0xDB, 3, .dir .addbDir⟩, rfl, rfl, rfl, by decide, by decide⟩
theorem SlotOf.lddDir (dd : Byte) : SlotOf.Statement (.lddDir dd) :=
  ⟨⟨0xDC, 4, .dir .lddDir⟩, rfl, rfl, rfl, by decide, by decide⟩
theorem SlotOf.stdDir (dd : Byte) : SlotOf.Statement (.stdDir dd) :=
  ⟨⟨0xDD, 4, .dir .stdDir⟩, rfl, rfl, rfl, by decide, by decide⟩
theorem SlotOf.ldxDir (dd : Byte) : SlotOf.Statement (.ldxDir dd) :=
  ⟨⟨0xDE, 4, .dir .ldxDir⟩, rfl, rfl, rfl, by decide, by decide⟩
theorem SlotOf.stxDir (dd : Byte) : SlotOf.Statement (.stxDir dd) :=
  ⟨⟨0xDF, 4, .dir .stxDir⟩, rfl, rfl, rfl, by decide, by decide⟩
theorem SlotOf.subbIdx (ff : Byte) : SlotOf.Statement (.subbIdx ff) :=
  ⟨⟨0xE0, 4, .idx .subbIdx⟩, rfl, rfl, rfl, by decide, by decide⟩
theorem SlotOf.cmpbIdx (ff : Byte) : SlotOf.Statement (.cmpbIdx ff) :=
  ⟨⟨0xE1, 4, .idx .cmpbIdx⟩, rfl, rfl, rfl, by decide, by decide⟩
theorem SlotOf.sbcbIdx (ff : Byte) : SlotOf.Statement (.sbcbIdx ff) :=
  ⟨⟨0xE2, 4, .idx .sbcbIdx⟩, rfl, rfl, rfl, by decide, by decide⟩
theorem SlotOf.adddIdx (ff : Byte) : SlotOf.Statement (.adddIdx ff) :=
  ⟨⟨0xE3, 5, .idx .adddIdx⟩, rfl, rfl, rfl, by decide, by decide⟩
theorem SlotOf.ldabIdx (ff : Byte) : SlotOf.Statement (.ldabIdx ff) :=
  ⟨⟨0xE6, 4, .idx .ldabIdx⟩, rfl, rfl, rfl, by decide, by decide⟩
theorem SlotOf.stabIdx (ff : Byte) : SlotOf.Statement (.stabIdx ff) :=
  ⟨⟨0xE7, 4, .idx .stabIdx⟩, rfl, rfl, rfl, by decide, by decide⟩
theorem SlotOf.adcbIdx (ff : Byte) : SlotOf.Statement (.adcbIdx ff) :=
  ⟨⟨0xE9, 4, .idx .adcbIdx⟩, rfl, rfl, rfl, by decide, by decide⟩
theorem SlotOf.addbIdx (ff : Byte) : SlotOf.Statement (.addbIdx ff) :=
  ⟨⟨0xEB, 4, .idx .addbIdx⟩, rfl, rfl, rfl, by decide, by decide⟩
theorem SlotOf.lddIdx (ff : Byte) : SlotOf.Statement (.lddIdx ff) :=
  ⟨⟨0xEC, 5, .idx .lddIdx⟩, rfl, rfl, rfl, by decide, by decide⟩
theorem SlotOf.stdIdx (ff : Byte) : SlotOf.Statement (.stdIdx ff) :=
  ⟨⟨0xED, 5, .idx .stdIdx⟩, rfl, rfl, rfl, by decide, by decide⟩
theorem SlotOf.ldxIdx (ff : Byte) : SlotOf.Statement (.ldxIdx ff) :=
  ⟨⟨0xEE, 5, .idx .ldxIdx⟩, rfl, rfl, rfl, by decide, by decide⟩
theorem SlotOf.stxIdx (ff : Byte) : SlotOf.Statement (.stxIdx ff) :=
  ⟨⟨0xEF, 5, .idx .stxIdx⟩, rfl, rfl, rfl, by decide, by decide⟩
theorem SlotOf.subbExt (hhll : Word) : SlotOf.Statement (.subbExt hhll) :=
  ⟨⟨0xF0, 4, .ext .subbExt⟩, rfl, congrArg some (congrArg (fun w => (Instr.subbExt w, [])) (joinBytes_hi_lo hhll)), rfl, by decide, by decide⟩
theorem SlotOf.cmpbExt (hhll : Word) : SlotOf.Statement (.cmpbExt hhll) :=
  ⟨⟨0xF1, 4, .ext .cmpbExt⟩, rfl, congrArg some (congrArg (fun w => (Instr.cmpbExt w, [])) (joinBytes_hi_lo hhll)), rfl, by decide, by decide⟩
theorem SlotOf.sbcbExt (hhll : Word) : SlotOf.Statement (.sbcbExt hhll) :=
  ⟨⟨0xF2, 4, .ext .sbcbExt⟩, rfl, congrArg some (congrArg (fun w => (Instr.sbcbExt w, [])) (joinBytes_hi_lo hhll)), rfl, by decide, by decide⟩
theorem SlotOf.adddExt (hhll : Word) : SlotOf.Statement (.adddExt hhll) :=
  ⟨⟨0xF3, 5, .ext .adddExt⟩, rfl, congrArg some (congrArg (fun w => (Instr.adddExt w, [])) (joinBytes_hi_lo hhll)), rfl, by decide, by decide⟩
theorem SlotOf.ldabExt (hhll : Word) : SlotOf.Statement (.ldabExt hhll) :=
  ⟨⟨0xF6, 4, .ext .ldabExt⟩, rfl, congrArg some (congrArg (fun w => (Instr.ldabExt w, [])) (joinBytes_hi_lo hhll)), rfl, by decide, by decide⟩
theorem SlotOf.stabExt (hhll : Word) : SlotOf.Statement (.stabExt hhll) :=
  ⟨⟨0xF7, 4, .ext .stabExt⟩, rfl, congrArg some (congrArg (fun w => (Instr.stabExt w, [])) (joinBytes_hi_lo hhll)), rfl, by decide, by decide⟩
theorem SlotOf.adcbExt (hhll : Word) : SlotOf.Statement (.adcbExt hhll) :=
  ⟨⟨0xF9, 4, .ext .adcbExt⟩, rfl, congrArg some (congrArg (fun w => (Instr.adcbExt w, [])) (joinBytes_hi_lo hhll)), rfl, by decide, by decide⟩
theorem SlotOf.addbExt (hhll : Word) : SlotOf.Statement (.addbExt hhll) :=
  ⟨⟨0xFB, 4, .ext .addbExt⟩, rfl, congrArg some (congrArg (fun w => (Instr.addbExt w, [])) (joinBytes_hi_lo hhll)), rfl, by decide, by decide⟩
theorem SlotOf.lddExt (hhll : Word) : SlotOf.Statement (.lddExt hhll) :=
  ⟨⟨0xFC, 5, .ext .lddExt⟩, rfl, congrArg some (congrArg (fun w => (Instr.lddExt w, [])) (joinBytes_hi_lo hhll)), rfl, by decide, by decide⟩
theorem SlotOf.stdExt (hhll : Word) : SlotOf.Statement (.stdExt hhll) :=
  ⟨⟨0xFD, 5, .ext .stdExt⟩, rfl, congrArg some (congrArg (fun w => (Instr.stdExt w, [])) (joinBytes_hi_lo hhll)), rfl, by decide, by decide⟩
theorem SlotOf.ldxExt (hhll : Word) : SlotOf.Statement (.ldxExt hhll) :=
  ⟨⟨0xFE, 5, .ext .ldxExt⟩, rfl, congrArg some (congrArg (fun w => (Instr.ldxExt w, [])) (joinBytes_hi_lo hhll)), rfl, by decide, by decide⟩
theorem SlotOf.stxExt (hhll : Word) : SlotOf.Statement (.stxExt hhll) :=
  ⟨⟨0xFF, 5, .ext .stxExt⟩, rfl, congrArg some (congrArg (fun w => (Instr.stxExt w, [])) (joinBytes_hi_lo hhll)), rfl, by decide, by decide⟩

end Sys2Proof.Laws
end

