-- ==== Sys2Proof/Laws/Serial.lean ====
section
/-!
SUPPORT. The laws of the UART: what a tick leaves alone, and that the prescaler's loop makes all its ticks and stops below
its divisor.
-/

namespace Sys2Proof.Machine

/-- The transmitter's half of a tick changes `TSR`, `TDRE`, `TXST` and the line alone (R342). -/
theorem Sci.txTick_frame (u : Sci) :
    u.txTick = { u with
      tsr := u.txTick.tsr, trcsr := u.txTick.trcsr, txst := u.txTick.txst, txdLine := u.txTick.txdLine } := by
  unfold Sci.txTick
  split
  · split
    · split <;> rfl
    · rfl
    · rfl
  · rfl

/-- The receiver's half of a tick changes `RSR`, `RDR`, `TRCSR`, `RXST`, `WUCNT` and `RXPREV` alone (R345). -/
theorem Sci.rxTick_frame (u : Sci) :
    u.rxTick = { u with
      rsr := u.rxTick.rsr, rdr := u.rxTick.rdr, trcsr := u.rxTick.trcsr, rxst := u.rxTick.rxst, wucnt := u.rxTick.wucnt
      rxprev := u.rxTick.rxprev } := by
  simp only [Sci.rxTick, Sci.rxWakeUp, Sci.rxFrame, Sci.rxStop]
  repeat' (first | rfl | split)

/-- The transmitter sets `TDRE` or leaves `TRCSR` alone (R342). -/
theorem Sci.txTick_trcsr (u : Sci) : u.txTick.trcsr = u.trcsr ∨ u.txTick.trcsr = u.trcsr ||| 0x20#8 := by
  unfold Sci.txTick
  split
  · split
    · split
      · exact .inl rfl
      · exact .inr rfl
    · exact .inl rfl
    · exact .inl rfl
  · exact .inl rfl

/-- The receiver clears `WU`, sets `ORFE`, sets `RDRF`, or leaves `TRCSR` alone (R345). -/
theorem Sci.rxTick_trcsr (u : Sci) : u.rxTick.trcsr = u.trcsr ∨ u.rxTick.trcsr = u.trcsr &&& 0xFE#8 ∨
    u.rxTick.trcsr = u.trcsr ||| 0x40#8 ∨ u.rxTick.trcsr = u.trcsr ||| 0x80#8 := by
  simp only [Sci.rxTick, Sci.rxWakeUp, Sci.rxFrame, Sci.rxStop]
  repeat' (first | exact .inl rfl | exact .inr (.inl rfl) | exact .inr (.inr (.inl rfl)) | exact .inr (.inr (.inr rfl)) | split)

/-- A tick leaves the interrupt enables, `RE` and `TE` alone. -/
theorem Sci.tick_enables (c : Config) (u : Sci) :
    (u.tick c).rie = u.rie ∧ (u.tick c).tie = u.tie ∧ (u.tick c).re = u.re ∧ (u.tick c).te = u.te := by
  have tx : u.txTick.rie = u.rie ∧ u.txTick.tie = u.tie ∧ u.txTick.re = u.re ∧ u.txTick.te = u.te := by
    simp only [Sci.rie, Sci.tie, Sci.re, Sci.te]
    rcases u.txTick_trcsr with h | h <;> simp [h]
  have rx : ∀ w : Sci, w.rxTick.rie = w.rie ∧ w.rxTick.tie = w.tie ∧ w.rxTick.re = w.re ∧ w.rxTick.te = w.te := by
    intro w
    simp only [Sci.rie, Sci.tie, Sci.re, Sci.te]
    rcases w.rxTick_trcsr with h | h | h | h <;> simp [h]
  have wi : ∀ w : Sci, (w.wire c).rie = w.rie ∧ (w.wire c).tie = w.tie ∧ (w.wire c).re = w.re ∧ (w.wire c).te = w.te := by
    intro w; unfold Sci.wire; split <;> exact ⟨rfl, rfl, rfl, rfl⟩
  unfold Sci.tick
  obtain ⟨a1, a2, a3, a4⟩ := rx (u.txTick.wire c)
  obtain ⟨b1, b2, b3, b4⟩ := wi u.txTick
  obtain ⟨c1, c2, c3, c4⟩ := tx
  exact ⟨a1.trans (b1.trans c1), a2.trans (b2.trans c2), a3.trans (b3.trans c3), a4.trans (b4.trans c4)⟩

/-- A tick leaves the prescaler, `RMCR` and `TDR` alone. -/
theorem Sci.tick_keeps (c : Config) (u : Sci) :
    (u.tick c).sdiv = u.sdiv ∧ (u.tick c).rmcr = u.rmcr ∧ (u.tick c).tdr = u.tdr := by
  unfold Sci.tick
  rw [Sci.rxTick_frame, Sci.wire]
  split <;> (rw [Sci.txTick_frame]; exact ⟨rfl, rfl, rfl⟩)

/-- The wake-up count of a tick. -/
theorem Sci.tick_wucnt (c : Config) (u : Sci) (h : u.wucnt < 10) : (u.tick c).wucnt < 10 := by
  have hw : (u.txTick.wire c).wucnt = u.wucnt := by
    rw [Sci.txTick_frame, Sci.wire]; split <;> rfl
  unfold Sci.tick
  rw [← hw] at h
  generalize u.txTick.wire c = w at h
  simp only [Sci.rxTick, Sci.rxWakeUp, Sci.rxFrame, Sci.rxStop]
  repeat' (first | omega | split)
  all_goals simp_all
  omega

theorem Sci.txTick_line (u : Sci) (h1 : u.te = false → u.txst = .idle) (h2 : u.txst = .idle → u.txdLine = true) :
    (u.te = false → u.txTick.txst = .idle) ∧ (u.txTick.txst = .idle → u.txTick.txdLine = true) := by
  unfold Sci.txTick
  split
  · rename_i hte
    refine ⟨fun h => by simp [hte] at h, ?_⟩
    split
    · split
      · simp
      · simp
    · rename_i i _
      intro h
      simp only [FrameState.afterBit] at h
      split at h <;> cases h
    · simp
  · exact ⟨h1, h2⟩

/-- The UART's invariant, but for the prescaler, is kept by a tick. -/
theorem Sci.tick_inv (c : Config) (u : Sci) (h0 : u.wucnt < 10) (h1 : u.te = false → u.txst = .idle)
    (h2 : u.txst = .idle → u.txdLine = true) (h3 : u.re = false → u.rxst = .idle) :
    (u.tick c).wucnt < 10 ∧ ((u.tick c).te = false → (u.tick c).txst = .idle) ∧
      ((u.tick c).txst = .idle → (u.tick c).txdLine = true) ∧ ((u.tick c).re = false → (u.tick c).rxst = .idle) := by
  have he := Sci.tick_enables c u
  have ht : (u.tick c).txst = u.txTick.txst ∧ (u.tick c).txdLine = u.txTick.txdLine := by
    unfold Sci.tick
    rw [Sci.rxTick_frame, Sci.wire]
    split <;> exact ⟨rfl, rfl⟩
  have hl := Sci.txTick_line u h1 h2
  refine ⟨Sci.tick_wucnt c u h0, by rw [he.2.2.2, ht.1]; exact hl.1, by rw [ht.1, ht.2]; exact hl.2, ?_⟩
  rw [he.2.2.1]
  intro hr
  have hw : (u.txTick.wire c).re = u.re ∧ (u.txTick.wire c).rxst = u.rxst := by
    constructor
    · rcases u.txTick_trcsr with h | h <;> unfold Sci.wire Sci.re <;> split <;> simp [h]
    · rw [Sci.txTick_frame, Sci.wire]; split <;> rfl
  unfold Sci.tick Sci.rxTick
  rw [hw.1, hr]
  simp only [Bool.false_eq_true, if_false]
  rw [hw.2]
  exact h3 hr

/-- The three conditional updates of a write of `TRCSR`, for any new register value. -/
theorem Sci.writeTrcsr_steps (u : Sci) (x : Byte) :
    (let w := { u with trcsr := x }
     let w1 := if w.te then w else { w with txst := .idle, txdLine := true }
     let w2 := if w1.re && u.re then w1 else { w1 with rxst := .idle }
     if w2.wu && !u.wu then { w2 with wucnt := 0 } else w2) =
      { u with
        trcsr := x
        txst := if x.getLsbD 1 then u.txst else .idle
        txdLine := if x.getLsbD 1 then u.txdLine else true
        rxst := if x.getLsbD 2 && u.re then u.rxst else .idle
        wucnt := if x.getLsbD 0 && !u.wu then 0 else u.wucnt } := by
  simp only [Sci.te, Sci.re, Sci.wu]
  rcases Bool.eq_false_or_eq_true (x.getLsbD 0) with h0 | h0 <;>
    rcases Bool.eq_false_or_eq_true (x.getLsbD 1) with h1 | h1 <;>
    rcases Bool.eq_false_or_eq_true (x.getLsbD 2) with h2 | h2 <;>
    rcases Bool.eq_false_or_eq_true (u.trcsr.getLsbD 2) with h3 | h3 <;>
    rcases Bool.eq_false_or_eq_true (u.trcsr.getLsbD 0) with h4 | h4 <;>
    simp only [h0, h1, h2, h3, h4, Bool.and_true, Bool.and_false, Bool.not_false, Bool.not_true, if_true,
      Bool.false_eq_true, if_false]

/-- What a write of `TRCSR` does, once, in terms of the new register (R333). -/
theorem Sci.writeTrcsr_eq (u : Sci) (v : Byte) :
    u.writeTrcsr v =
      let x := (u.trcsr &&& trcsrFlags) ||| (v &&& trcsrWritable)
      { u with
        trcsr := x
        txst := if x.getLsbD 1 then u.txst else .idle
        txdLine := if x.getLsbD 1 then u.txdLine else true
        rxst := if x.getLsbD 2 && u.re then u.rxst else .idle
        wucnt := if x.getLsbD 0 && !u.wu then 0 else u.wucnt } :=
  Sci.writeTrcsr_steps u _

end Sys2Proof.Machine
end

