-- ==== Sys2Proof/Laws/Step.lean ====
section
/-!
SUPPORT. What the phases of a step do, said once: the fetch of bytes outside the window, the costs a table can hold, the accounting.
-/

namespace Sys2Proof.Machine

open Sys2Proof.Claims

/-- With nothing to take and no wait, a step fetches and runs an instruction (R121). -/
theorem step_eq_runInstruction {s : State} (hw : s.cfg.wf = true) (hp : s.poll = none) (hm : s.mode = .run) :
    step s = s.runInstruction := by
  simp [step, State.dispatchStep, hw, hp, hm]

/-- `Fetch8` outside the window (R92): one read, and `PC` one further. -/
theorem State.fetch8_unclaimed {s : State} (h : windowReg s.cfg s.pc = none) :
    s.fetch8 = .ok ((s.read8 s.pc).1, (s.read8 s.pc).2.setPc (s.pc + 1#16)) := by
  simp [State.fetch8, State.read8_unclaimed h, h]

/-- The fetch of `n` bytes outside the window (R90, R92): the reads at `PC`, `PC + 1`, ..., and `PC` past them. -/
theorem State.fetchMany_unclaimed (n : Nat) : ∀ s : State, Unclaimed s.cfg s.pc n →
    s.fetchMany n = .ok ((readUp s s.pc n).1, (readUp s s.pc n).2.setPc (s.pc + BitVec.ofNat 16 n)) := by
  have past : ∀ (a : Word) (k : Nat), a + 1#16 + BitVec.ofNat 16 k = a + BitVec.ofNat 16 (k + 1) := fun a k => by
    rw [BitVec.add_assoc, BitVec.add_comm 1#16, ← BitVec.ofNat_add]
  induction n with
  | zero => intro s _; simp [State.fetchMany, readUp, State.setPc]
  | succ n ih =>
    intro s h
    have h0 : windowReg s.cfg s.pc = none := by simpa using h 0 (by omega)
    have hn := ih ((s.read8 s.pc).2.setPc (s.pc + 1#16)) (fun k hk => by
      rw [State.setPc_pc, State.setPc_cfg, State.read8_cfg, past]
      exact h (k + 1) (by omega))
    simp only [State.fetchMany, State.fetch8_unclaimed h0, hn, State.setPc_pc, readUp, readUp_setPc, past]
    rfl

/-- ACCOUNT with a cost (R127). -/
theorem State.account_charged (t : State) {c : Nat} (h : 0 < c) : Charged t (t.account c) c := by
  unfold Charged State.account
  rw [if_neg (by omega)]
  cases hT : t.cfg.hasTimer <;> cases hS : t.cfg.hasSci <;>
    simp [State.charge, State.timerAdvance, State.serialAdvance, hT, hS]

/-- The line reset costs nothing (R121, R127). -/
theorem State.account_zero (t : State) : t.account 0 = t := by simp [State.account, State.charge]

/-- The costs of a configuration that constructs are positive (R5). -/
theorem Config.costs_pos {c : Config} (h : c.wf = true) : 0 < c.cIllegal ∧ 0 < c.cInt ∧ 0 < c.cTrap := by
  simp [Config.wf, Config.costsPositive] at h
  omega

/-- The divisor in use is positive (R340). -/
theorem Sci.divisor_pos {c : Config} (h : c.wf = true) (u : Sci) : 0 < u.divisor c := by
  simp [Config.wf, Config.divisorsPositive] at h
  unfold Sci.divisor
  split <;> omega

/-- "`cycles` in 1..12" (R98), for the rows of R97. -/
theorem dispatchTable_cycles : ∀ r ∈ dispatchTable, 1 ≤ r.cycles ∧ r.cycles ≤ 12 := by
  unfold dispatchTable
  simp only [List.forall_mem_append, tableRow0, tableRow1, tableRow2, tableRow3, tableRow4, tableRow5, tableRow6,
    tableRow7, tableRow8, tableRow9, tableRowA, tableRowB, tableRowC, tableRowD, tableRowE, tableRowF, List.forall_mem_cons,
    List.not_mem_nil, false_imp_iff, implies_true, and_true]
  simp

/-- The costs that the table of a configuration that constructs can hold (R98, R273). -/
theorem entryOf_cost {c : Config} (hw : c.wf = true) (op : Byte) :
    (∀ slot n, entryOf c op = .op slot n → 1 ≤ n ∧ n ≤ 12) ∧ ∀ n, entryOf c op = .illegal n → 0 < n := by
  simp only [Config.wf, Bool.and_eq_true, Config.tableWf, List.all_eq_true, Config.costsPositive, decide_eq_true_eq] at hw
  unfold entryOf
  split
  · rename_i e he
    have hm := hw.2 e (List.mem_of_find?_eq_some he)
    constructor
    · intro slot n h; simp only [h, Entry.wf, Bool.and_eq_true, decide_eq_true_eq] at hm; omega
    · intro n h; simp only [h, Entry.wf, decide_eq_true_eq] at hm; omega
  · unfold referenceEntry
    split
    · simp
    · rename_i r hr
      have hc := dispatchTable_cycles r (List.mem_of_find?_eq_some hr)
      split
      · simp; omega
      · split
        · simp; omega
        · simp

/-- Whatever byte an illegal slot has, its meaning is the trap or nothing (R273, R274). -/
theorem exec_illegalAt (op : Byte) (s : State) : exec (illegalAt op) s = .next s.illegalSlot := by
  unfold illegalAt
  split
  · rfl
  · split <;> rfl

end Sys2Proof.Machine
end

