-- ==== Sys2Proof/Laws/Timer.lean ====
section
/-!
SUPPORT. The laws of the timer: the invariant of the arm-then-clear protocol kept by every operation on the timer.
-/

namespace Sys2Proof.Machine

/-- The timer's invariant, bit by bit: an armed bit is a flag bit and is set. -/
theorem Timer.inv_iff (t : Timer) :
    t.Inv ↔ ∀ i, t.tpend.getLsbD i = true → t.tcsr.getLsbD i = true ∧ tcsrFlags.getLsbD i = true := by
  unfold Timer.Inv
  constructor
  · intro h i hi
    rw [← h] at hi
    simp only [BitVec.getLsbD_and, Bool.and_eq_true] at hi
    exact hi.2
  · intro h
    apply BitVec.eq_of_getLsbD_eq
    intro i _
    cases hb : t.tpend.getLsbD i with
    | false => simp [hb]
    | true => simp [hb, h i hb]

theorem TFlag.bit_lt (f : TFlag) : f.bit < 8 := by cases f <;> decide

/-- A flag's mask has its bit and no other. -/
theorem TFlag.getLsbD_mask (f : TFlag) (i : Nat) : f.mask.getLsbD i = decide (i = f.bit) := by
  by_cases h : i < 8
  · have : ∀ j : Fin 8, f.mask.getLsbD j = decide ((j : Nat) = f.bit) := by cases f <;> decide
    exact this ⟨i, h⟩
  · rw [BitVec.getLsbD_of_ge _ _ (by omega)]
    have := f.bit_lt
    simp; omega

/-- Only three bits are flags. -/
theorem getLsbD_tcsrFlags (i : Nat) : tcsrFlags.getLsbD i = decide (5 ≤ i ∧ i < 8) := by
  by_cases h : i < 8
  · have : ∀ j : Fin 8, tcsrFlags.getLsbD j = decide (5 ≤ (j : Nat) ∧ (j : Nat) < 8) := by decide
    exact this ⟨i, h⟩
  · rw [BitVec.getLsbD_of_ge _ _ (by omega)]; simp; omega

/-- What `RaiseFlag` does to the bits (R294). -/
theorem Timer.raiseFlag_bits (t : Timer) (f : TFlag) (i : Nat) :
    (t.raiseFlag f).tcsr.getLsbD i = (t.tcsr.getLsbD i || decide (i = f.bit)) ∧
      (t.raiseFlag f).tpend.getLsbD i = (t.tpend.getLsbD i && !decide (i = f.bit)) := by
  have hf := f.bit_lt
  simp only [Timer.raiseFlag, BitVec.getLsbD_or, BitVec.getLsbD_and, BitVec.getLsbD_not, TFlag.getLsbD_mask]
  by_cases h : i < 8
  · simp [h]
  · simp [BitVec.getLsbD_of_ge _ _ (Nat.not_lt.mp h)]

/-- What `ClearIfArmed` does to the bits (R296). -/
theorem Timer.clearIfArmed_bits (t : Timer) (f : TFlag) (i : Nat) :
    (t.clearIfArmed f).tcsr.getLsbD i = (t.tcsr.getLsbD i && !(t.armed f && decide (i = f.bit))) ∧
      (t.clearIfArmed f).tpend.getLsbD i = (t.tpend.getLsbD i && !(t.armed f && decide (i = f.bit))) := by
  cases ha : t.armed f <;> simp only [Timer.clearIfArmed, ha]
  · simp
  · simp only [if_true, BitVec.getLsbD_and, BitVec.getLsbD_not, TFlag.getLsbD_mask]
    by_cases h : i < 8
    · simp [h]
    · simp [BitVec.getLsbD_of_ge _ _ (Nat.not_lt.mp h)]

theorem Timer.Inv.raiseFlag {t : Timer} (h : t.Inv) (f : TFlag) : (t.raiseFlag f).Inv := by
  rw [Timer.inv_iff] at h ⊢
  intro i hi
  have hb := t.raiseFlag_bits f i
  rw [hb.2] at hi
  rw [hb.1]
  simp only [Bool.and_eq_true] at hi
  exact ⟨by simp [(h i hi.1).1], (h i hi.1).2⟩

theorem Timer.Inv.clearIfArmed {t : Timer} (h : t.Inv) (f : TFlag) : (t.clearIfArmed f).Inv := by
  rw [Timer.inv_iff] at h ⊢
  intro i hi
  have hb := t.clearIfArmed_bits f i
  rw [hb.2] at hi
  rw [hb.1]
  simp only [Bool.and_eq_true] at hi ⊢
  exact ⟨⟨(h i hi.1).1, hi.2⟩, (h i hi.1).2⟩

theorem Timer.Inv.armFlags (t : Timer) : t.armFlags.Inv := by
  rw [Timer.inv_iff]
  intro i hi
  simpa [Timer.armFlags] using hi

theorem Timer.Inv.tick {t : Timer} (h : t.Inv) : t.tick.Inv := by
  have h0 : Timer.Inv { t with cnt := t.cnt + 1#16 } := h
  simp only [Timer.tick]
  split <;> split <;> first | exact h0 | exact h0.raiseFlag _ | exact (h0.raiseFlag _).raiseFlag _

theorem Timer.Inv.advance {t : Timer} (h : t.Inv) (n : Nat) : (t.advance n).Inv := by
  induction n generalizing t with
  | zero => exact h
  | succ n ih => exact ih h.tick

theorem Timer.Inv.writeTcsr {t : Timer} (h : t.Inv) (v : Byte) : (t.writeTcsr v).Inv := by
  rw [Timer.inv_iff] at h ⊢
  intro i hi
  have := h i hi
  simp [Timer.writeTcsr, this]

theorem Timer.Inv.setTin {t : Timer} (h : t.Inv) (l : Bool) : (t.setTin l).Inv := by
  simp only [Timer.setTin]
  split
  · exact Timer.Inv.raiseFlag (t := { t with tinLine := l, icr := t.cnt }) h .icf
  · exact h

end Sys2Proof.Machine
end

