-- ==== Sys2Proof/Tests/Slice0.lean ====
section
/-!
SUPPORT. Tests: an ill-formed term for each check of WellFormed, every row of R97 decoded from bytes written out, one
step of each instruction with the results of spec/95_test_vectors.md, and a witness of the hypotheses of each statement.
-/

namespace Sys2Proof.Tests

set_option Elab.async false

open Sys2Proof Sys2Proof.Machine Sys2Proof.Claims

/-! WellFormed refuses an ill-formed term at each of its checks. -/

theorem test_wf_reference : Config.reference.wf = true := by decide +kernel

theorem test_wf_cIllegal_zero : Config.wf { Config.reference with cIllegal := 0 } = false := by decide +kernel

theorem test_wf_cInt_zero : Config.wf { Config.reference with cInt := 0 } = false := by decide +kernel

theorem test_wf_cTrap_zero : Config.wf { Config.reference with cTrap := 0 } = false := by decide +kernel

theorem test_wf_baud0_zero : Config.wf { Config.reference with baud0 := 0 } = false := by decide +kernel

theorem test_wf_baud1_zero : Config.wf { Config.reference with baud1 := 0 } = false := by decide +kernel

theorem test_wf_baud2_zero : Config.wf { Config.reference with baud2 := 0 } = false := by decide +kernel

theorem test_wf_baud3_zero : Config.wf { Config.reference with baud3 := 0 } = false := by decide +kernel

/-- An `op` entry costs at least one cycle (R98). -/
theorem test_wf_op_cost_zero : Config.wf { Config.reference with table := [(0x10#8, .op 0x01#8 0)] } = false := by
  decide +kernel

/-- An `op` entry costs at most twelve cycles (R98). -/
theorem test_wf_op_cost_13 : Config.wf { Config.reference with table := [(0x10#8, .op 0x01#8 13)] } = false := by
  decide +kernel

theorem test_wf_op_cost_12 : Config.wf { Config.reference with table := [(0x10#8, .op 0x01#8 12)] } = true := by
  decide +kernel

/-- An `op` entry names an operation: 0x10 has none, 0x02 is illegal (R97, R98). -/
theorem test_wf_op_without_operation :
    Config.wf { Config.reference with table := [(0x10#8, .op 0x10#8 1)] } = false ∧
      Config.wf { Config.reference with table := [(0x10#8, .op 0x02#8 1)] } = false := by
  decide +kernel

/-- An `op` entry names an operation that the variant has (R6). -/
theorem test_wf_op_absent : Config.wf { Config.reference with hasD := false, table := [(0x10#8, .op 0x3D#8 7)] } = false := by
  decide +kernel

/-- "A table with an `illegal(0)` entry is malformed" (R273). -/
theorem test_wf_illegal_zero : Config.wf { Config.reference with table := [(0x10#8, .illegal 0)] } = false := by
  decide +kernel

/-- MUL and ADDD need HAS_D, SLP and AIM need HAS_EXT_OPS (R163, R166, R200, R271). -/
theorem test_wf_instructions :
    Instr.wf { Config.reference with hasD := false } .mul = false ∧
      Instr.wf { Config.reference with hasD := false } (.adddImm 1#16) = false ∧
      Instr.wf { Config.reference with hasExtOps := false } .slp = false ∧
      Instr.wf { Config.reference with hasExtOps := false } (.aimDir 1#8 2#8) = false ∧
      Instr.wf Config.reference .mul = true ∧ Instr.wf { Config.reference with hasD := false } (.addaImm 1#8) = true := by
  decide +kernel

/-! Decoding, from bytes written out from the encodings of R91 and R97. -/

/-- The bytes decode to the instruction and nothing is left. -/
def reads (bs : List Byte) (i : Instr) : Bool :=
  match decode bs with
  | .ok (j, []) => decide (j = i)
  | .ok (_, _ :: _) => false
  | .error _ => false

/-- The reset state with a program counter, a stack pointer of 0x01FF, bytes at the program counter and other bytes of
memory, as the vectors of 95_test_vectors.md start. -/
def start (pc : Word) (bytes : List Byte) (cells : List (Word × Byte)) : State :=
  let s := { State.reset with pc := pc, sp := 0x01FF#16 }.placeBytes pc bytes
  { s with mem := cells.foldl (fun m c => m.write c.1 c.2) s.mem }

/-- One step from that start, with the registers as `edit` sets them, answers a state that passes `p`, for a cost. -/
def steps (pc : Word) (bytes : List Byte) (cells : List (Word × Byte)) (edit : State → State) (cost : Nat)
    (p : State → Bool) : Bool :=
  match step (edit (start pc bytes cells)) with
  | .next t => p t && t.total == cost && t.icount == -(cost : Int)
  | .fault _ => false
  | .refused _ => false

/-- The branch with this opcode at 0x1000 and an offset of -2 goes back to 0x1000 with the first flags and on to 0x1002 with
the second, for three cycles (R230). -/
def branches (op taken notTaken : Byte) : Bool :=
  steps 0x1000#16 [op, 0xFE#8] [] (fun s => s.setCc (CC.ofByte taken)) 3 (fun t => t.pc == 0x1000#16) &&
    steps 0x1000#16 [op, 0xFE#8] [] (fun s => s.setCc (CC.ofByte notTaken)) 3 fun t => t.pc == 0x1002#16

/-- 30_encoding.md R97, opcodes 0x00 to 0x0F. -/
theorem test_decode_00 :
    reads [0x00#8] .illegal00 && reads [0x01#8] .nop && reads [0x02#8] .illegal02 &&
      reads [0x03#8] .illegal03 && reads [0x04#8] .lsrd && reads [0x05#8] .asld && reads [0x06#8] .tap &&
      reads [0x07#8] .tpa && reads [0x08#8] .inx && reads [0x09#8] .dex && reads [0x0A#8] .clv &&
      reads [0x0B#8] .sev && reads [0x0C#8] .clc && reads [0x0D#8] .sec && reads [0x0E#8] .cli &&
      reads [0x0F#8] .sei = true := by
  decide +kernel

/-- 30_encoding.md R97, opcodes 0x10 to 0x1F. -/
theorem test_decode_10 :
    reads [0x19#8] .daa && reads [0x1A#8] .slp = true := by
  decide +kernel

/-- 30_encoding.md R97, opcodes 0x20 to 0x2F. -/
theorem test_decode_20 :
    reads [0x20#8, 0xA5#8] (.bra 0xA5#8) && reads [0x21#8, 0xA5#8] (.brn 0xA5#8) &&
      reads [0x22#8, 0xA5#8] (.bhi 0xA5#8) && reads [0x23#8, 0xA5#8] (.bls 0xA5#8) &&
      reads [0x24#8, 0xA5#8] (.bcc 0xA5#8) && reads [0x25#8, 0xA5#8] (.bcs 0xA5#8) &&
      reads [0x26#8, 0xA5#8] (.bne 0xA5#8) && reads [0x27#8, 0xA5#8] (.beq 0xA5#8) &&
      reads [0x28#8, 0xA5#8] (.bvc 0xA5#8) && reads [0x29#8, 0xA5#8] (.bvs 0xA5#8) &&
      reads [0x2A#8, 0xA5#8] (.bpl 0xA5#8) && reads [0x2B#8, 0xA5#8] (.bmi 0xA5#8) &&
      reads [0x2C#8, 0xA5#8] (.bge 0xA5#8) && reads [0x2D#8, 0xA5#8] (.blt 0xA5#8) &&
      reads [0x2E#8, 0xA5#8] (.bgt 0xA5#8) && reads [0x2F#8, 0xA5#8] (.ble 0xA5#8) = true := by
  decide +kernel

/-- 30_encoding.md R97, opcodes 0x30 to 0x3F. -/
theorem test_decode_30 :
    reads [0x39#8] .rts && reads [0x3B#8] .rti && reads [0x3D#8] .mul && reads [0x3E#8] .wai = true := by
  decide +kernel

/-- 30_encoding.md R97, opcodes 0x40 to 0x4F. -/
theorem test_decode_40 :
    reads [0x44#8] .lsra && reads [0x46#8] .rora && reads [0x47#8] .asra && reads [0x48#8] .asla &&
      reads [0x49#8] .rola && reads [0x4A#8] .deca && reads [0x4C#8] .inca = true := by
  decide +kernel

/-- 30_encoding.md R97, opcodes 0x50 to 0x5F. -/
theorem test_decode_50 :
    reads [0x54#8] .lsrb && reads [0x56#8] .rorb && reads [0x57#8] .asrb && reads [0x58#8] .aslb &&
      reads [0x59#8] .rolb && reads [0x5A#8] .decb && reads [0x5C#8] .incb = true := by
  decide +kernel

/-- 30_encoding.md R97, opcodes 0x60 to 0x6F. -/
theorem test_decode_60 :
    reads [0x61#8, 0xC3#8, 0x5A#8] (.aimIdx 0xC3#8 0x5A#8) &&
      reads [0x62#8, 0xC3#8, 0x5A#8] (.oimIdx 0xC3#8 0x5A#8) && reads [0x64#8, 0xA5#8] (.lsrIdx 0xA5#8) &&
      reads [0x65#8, 0xC3#8, 0x5A#8] (.eimIdx 0xC3#8 0x5A#8) && reads [0x66#8, 0xA5#8] (.rorIdx 0xA5#8) &&
      reads [0x67#8, 0xA5#8] (.asrIdx 0xA5#8) && reads [0x68#8, 0xA5#8] (.aslIdx 0xA5#8) &&
      reads [0x69#8, 0xA5#8] (.rolIdx 0xA5#8) && reads [0x6B#8, 0xC3#8, 0x5A#8] (.timIdx 0xC3#8 0x5A#8) &&
      reads [0x6E#8, 0xA5#8] (.jmpIdx 0xA5#8) = true := by
  decide +kernel

/-- 30_encoding.md R97, opcodes 0x70 to 0x7F. -/
theorem test_decode_70 :
    reads [0x71#8, 0xC3#8, 0x5A#8] (.aimDir 0xC3#8 0x5A#8) &&
      reads [0x72#8, 0xC3#8, 0x5A#8] (.oimDir 0xC3#8 0x5A#8) &&
      reads [0x74#8, 0xC3#8, 0x5A#8] (.lsrExt 0xC35A#16) &&
      reads [0x75#8, 0xC3#8, 0x5A#8] (.eimDir 0xC3#8 0x5A#8) &&
      reads [0x76#8, 0xC3#8, 0x5A#8] (.rorExt 0xC35A#16) &&
      reads [0x77#8, 0xC3#8, 0x5A#8] (.asrExt 0xC35A#16) &&
      reads [0x78#8, 0xC3#8, 0x5A#8] (.aslExt 0xC35A#16) &&
      reads [0x79#8, 0xC3#8, 0x5A#8] (.rolExt 0xC35A#16) &&
      reads [0x7B#8, 0xC3#8, 0x5A#8] (.timDir 0xC3#8 0x5A#8) &&
      reads [0x7E#8, 0xC3#8, 0x5A#8] (.jmpExt 0xC35A#16) = true := by
  decide +kernel

/-- 30_encoding.md R97, opcodes 0x80 to 0x8F. -/
theorem test_decode_80 :
    reads [0x80#8, 0xA5#8] (.subaImm 0xA5#8) && reads [0x81#8, 0xA5#8] (.cmpaImm 0xA5#8) &&
      reads [0x82#8, 0xA5#8] (.sbcaImm 0xA5#8) && reads [0x83#8, 0xC3#8, 0x5A#8] (.subdImm 0xC35A#16) &&
      reads [0x86#8, 0xA5#8] (.ldaaImm 0xA5#8) && reads [0x89#8, 0xA5#8] (.adcaImm 0xA5#8) &&
      reads [0x8B#8, 0xA5#8] (.addaImm 0xA5#8) && reads [0x8D#8, 0xA5#8] (.bsr 0xA5#8) &&
      reads [0x8E#8, 0xC3#8, 0x5A#8] (.ldsImm 0xC35A#16) = true := by
  decide +kernel

/-- 30_encoding.md R97, opcodes 0x90 to 0x9F. -/
theorem test_decode_90 :
    reads [0x90#8, 0xA5#8] (.subaDir 0xA5#8) && reads [0x91#8, 0xA5#8] (.cmpaDir 0xA5#8) &&
      reads [0x92#8, 0xA5#8] (.sbcaDir 0xA5#8) && reads [0x93#8, 0xA5#8] (.subdDir 0xA5#8) &&
      reads [0x96#8, 0xA5#8] (.ldaaDir 0xA5#8) && reads [0x97#8, 0xA5#8] (.staaDir 0xA5#8) &&
      reads [0x99#8, 0xA5#8] (.adcaDir 0xA5#8) && reads [0x9B#8, 0xA5#8] (.addaDir 0xA5#8) &&
      reads [0x9D#8, 0xA5#8] (.jsrDir 0xA5#8) && reads [0x9E#8, 0xA5#8] (.ldsDir 0xA5#8) = true := by
  decide +kernel

/-- 30_encoding.md R97, opcodes 0xA0 to 0xAF. -/
theorem test_decode_A0 :
    reads [0xA0#8, 0xA5#8] (.subaIdx 0xA5#8) && reads [0xA1#8, 0xA5#8] (.cmpaIdx 0xA5#8) &&
      reads [0xA2#8, 0xA5#8] (.sbcaIdx 0xA5#8) && reads [0xA3#8, 0xA5#8] (.subdIdx 0xA5#8) &&
      reads [0xA6#8, 0xA5#8] (.ldaaIdx 0xA5#8) && reads [0xA7#8, 0xA5#8] (.staaIdx 0xA5#8) &&
      reads [0xA9#8, 0xA5#8] (.adcaIdx 0xA5#8) && reads [0xAB#8, 0xA5#8] (.addaIdx 0xA5#8) &&
      reads [0xAD#8, 0xA5#8] (.jsrIdx 0xA5#8) && reads [0xAE#8, 0xA5#8] (.ldsIdx 0xA5#8) = true := by
  decide +kernel

/-- 30_encoding.md R97, opcodes 0xB0 to 0xBF. -/
theorem test_decode_B0 :
    reads [0xB0#8, 0xC3#8, 0x5A#8] (.subaExt 0xC35A#16) &&
      reads [0xB1#8, 0xC3#8, 0x5A#8] (.cmpaExt 0xC35A#16) &&
      reads [0xB2#8, 0xC3#8, 0x5A#8] (.sbcaExt 0xC35A#16) &&
      reads [0xB3#8, 0xC3#8, 0x5A#8] (.subdExt 0xC35A#16) &&
      reads [0xB6#8, 0xC3#8, 0x5A#8] (.ldaaExt 0xC35A#16) &&
      reads [0xB7#8, 0xC3#8, 0x5A#8] (.staaExt 0xC35A#16) &&
      reads [0xB9#8, 0xC3#8, 0x5A#8] (.adcaExt 0xC35A#16) &&
      reads [0xBB#8, 0xC3#8, 0x5A#8] (.addaExt 0xC35A#16) &&
      reads [0xBD#8, 0xC3#8, 0x5A#8] (.jsrExt 0xC35A#16) &&
      reads [0xBE#8, 0xC3#8, 0x5A#8] (.ldsExt 0xC35A#16) = true := by
  decide +kernel

/-- 30_encoding.md R97, opcodes 0xC0 to 0xCF. -/
theorem test_decode_C0 :
    reads [0xC0#8, 0xA5#8] (.subbImm 0xA5#8) && reads [0xC1#8, 0xA5#8] (.cmpbImm 0xA5#8) &&
      reads [0xC2#8, 0xA5#8] (.sbcbImm 0xA5#8) && reads [0xC3#8, 0xC3#8, 0x5A#8] (.adddImm 0xC35A#16) &&
      reads [0xC6#8, 0xA5#8] (.ldabImm 0xA5#8) && reads [0xC9#8, 0xA5#8] (.adcbImm 0xA5#8) &&
      reads [0xCB#8, 0xA5#8] (.addbImm 0xA5#8) && reads [0xCC#8, 0xC3#8, 0x5A#8] (.lddImm 0xC35A#16) &&
      reads [0xCE#8, 0xC3#8, 0x5A#8] (.ldxImm 0xC35A#16) = true := by
  decide +kernel

/-- 30_encoding.md R97, opcodes 0xD0 to 0xDF. -/
theorem test_decode_D0 :
    reads [0xD0#8, 0xA5#8] (.subbDir 0xA5#8) && reads [0xD1#8, 0xA5#8] (.cmpbDir 0xA5#8) &&
      reads [0xD2#8, 0xA5#8] (.sbcbDir 0xA5#8) && reads [0xD3#8, 0xA5#8] (.adddDir 0xA5#8) &&
      reads [0xD6#8, 0xA5#8] (.ldabDir 0xA5#8) && reads [0xD7#8, 0xA5#8] (.stabDir 0xA5#8) &&
      reads [0xD9#8, 0xA5#8] (.adcbDir 0xA5#8) && reads [0xDB#8, 0xA5#8] (.addbDir 0xA5#8) &&
      reads [0xDC#8, 0xA5#8] (.lddDir 0xA5#8) && reads [0xDD#8, 0xA5#8] (.stdDir 0xA5#8) &&
      reads [0xDE#8, 0xA5#8] (.ldxDir 0xA5#8) && reads [0xDF#8, 0xA5#8] (.stxDir 0xA5#8) = true := by
  decide +kernel

/-- 30_encoding.md R97, opcodes 0xE0 to 0xEF. -/
theorem test_decode_E0 :
    reads [0xE0#8, 0xA5#8] (.subbIdx 0xA5#8) && reads [0xE1#8, 0xA5#8] (.cmpbIdx 0xA5#8) &&
      reads [0xE2#8, 0xA5#8] (.sbcbIdx 0xA5#8) && reads [0xE3#8, 0xA5#8] (.adddIdx 0xA5#8) &&
      reads [0xE6#8, 0xA5#8] (.ldabIdx 0xA5#8) && reads [0xE7#8, 0xA5#8] (.stabIdx 0xA5#8) &&
      reads [0xE9#8, 0xA5#8] (.adcbIdx 0xA5#8) && reads [0xEB#8, 0xA5#8] (.addbIdx 0xA5#8) &&
      reads [0xEC#8, 0xA5#8] (.lddIdx 0xA5#8) && reads [0xED#8, 0xA5#8] (.stdIdx 0xA5#8) &&
      reads [0xEE#8, 0xA5#8] (.ldxIdx 0xA5#8) && reads [0xEF#8, 0xA5#8] (.stxIdx 0xA5#8) = true := by
  decide +kernel

/-- 30_encoding.md R97, opcodes 0xF0 to 0xFF. -/
theorem test_decode_F0 :
    reads [0xF0#8, 0xC3#8, 0x5A#8] (.subbExt 0xC35A#16) &&
      reads [0xF1#8, 0xC3#8, 0x5A#8] (.cmpbExt 0xC35A#16) &&
      reads [0xF2#8, 0xC3#8, 0x5A#8] (.sbcbExt 0xC35A#16) &&
      reads [0xF3#8, 0xC3#8, 0x5A#8] (.adddExt 0xC35A#16) &&
      reads [0xF6#8, 0xC3#8, 0x5A#8] (.ldabExt 0xC35A#16) &&
      reads [0xF7#8, 0xC3#8, 0x5A#8] (.stabExt 0xC35A#16) &&
      reads [0xF9#8, 0xC3#8, 0x5A#8] (.adcbExt 0xC35A#16) &&
      reads [0xFB#8, 0xC3#8, 0x5A#8] (.addbExt 0xC35A#16) &&
      reads [0xFC#8, 0xC3#8, 0x5A#8] (.lddExt 0xC35A#16) &&
      reads [0xFD#8, 0xC3#8, 0x5A#8] (.stdExt 0xC35A#16) &&
      reads [0xFE#8, 0xC3#8, 0x5A#8] (.ldxExt 0xC35A#16) &&
      reads [0xFF#8, 0xC3#8, 0x5A#8] (.stxExt 0xC35A#16) = true := by
  decide +kernel

/-! One step of each instruction, with the expected result of spec/95_test_vectors.md. -/

/-- 95_test_vectors.md: ADCA #0x01. -/
theorem test_adca :
    steps 0x1000#16 [0x89#8, 0x01#8] []
      (fun s => { s with a := 0xFF#8, cc := CC.ofByte 0xD0#8 }) 2
      (fun t => t.a == 0x00#8 && t.cc.h && !t.cc.n && t.cc.z && !t.cc.v && t.cc.c) = true := by
  decide +kernel

/-- 95_test_vectors.md: ADCB #$0F (C=1). -/
theorem test_adcb :
    steps 0x1000#16 [0xC9#8, 0x0F#8] []
      (fun s => { s with b := 0x00#8, cc := CC.ofByte 0xD1#8 }) 2
      (fun t => t.b == 0x10#8 && t.cc.h && !t.cc.n && !t.cc.z && !t.cc.v && !t.cc.c) = true := by
  decide +kernel

/-- 95_test_vectors.md: ADDA #$01. -/
theorem test_adda :
    steps 0x1000#16 [0x8B#8, 0x01#8] []
      (fun s => { s with a := 0xFF#8 }) 2
      (fun t => t.a == 0x00#8 && t.cc.h && !t.cc.n && t.cc.z && !t.cc.v && t.cc.c) = true := by
  decide +kernel

/-- 95_test_vectors.md: ADDB $2001. -/
theorem test_addb :
    steps 0x1000#16 [0xFB#8, 0x20#8, 0x01#8] [(0x2001#16, 0x01#8)]
      (fun s => { s with b := 0x7F#8 }) 4
      (fun t => t.b == 0x80#8 && t.cc.h && t.cc.n && !t.cc.z && t.cc.v && !t.cc.c) = true := by
  decide +kernel

/-- 95_test_vectors.md: ADDD $2000 (H=1 kept). -/
theorem test_addd :
    steps 0x1000#16 [0xF3#8, 0x20#8, 0x00#8] [(0x2000#16, 0x80#8), (0x2001#16, 0x00#8)]
      (fun s => { s with a := 0x80#8, b := 0x00#8, cc := CC.ofByte 0xF0#8 }) 5
      (fun t => t.a == 0x00#8 && t.b == 0x00#8 && t.cc.h && !t.cc.n && t.cc.z && t.cc.v && t.cc.c) = true := by
  decide +kernel

/-- 95_test_vectors.md: AIM #$00,$40. -/
theorem test_aim :
    steps 0x1000#16 [0x71#8, 0x00#8, 0x40#8] [(0x0040#16, 0xF5#8)]
      (fun s => { s with cc := CC.ofByte 0xD3#8 }) 6
      (fun t => !t.cc.n && t.cc.z && !t.cc.v && t.cc.c && t.peek 0x0040#16 == 0x00#8) = true := by
  decide +kernel

/-- 95_test_vectors.md: ASL $10,X. -/
theorem test_asl :
    steps 0x1000#16 [0x68#8, 0x10#8] [(0x2010#16, 0x55#8)]
      (fun s => { s with x := 0x2000#16 }) 6
      (fun t => t.cc.n && !t.cc.z && t.cc.v && !t.cc.c && t.peek 0x2010#16 == 0xAA#8) = true := by
  decide +kernel

/-- 95_test_vectors.md: ASLA (C=0). -/
theorem test_asla :
    steps 0x1000#16 [0x48#8] []
      (fun s => { s with a := 0x80#8, cc := CC.ofByte 0xD0#8 }) 1
      (fun t => t.a == 0x00#8 && !t.cc.n && t.cc.z && t.cc.v && t.cc.c) = true := by
  decide +kernel

/-- 95_test_vectors.md: ASLB. -/
theorem test_aslb :
    steps 0x1000#16 [0x58#8] []
      (fun s => { s with b := 0x40#8 }) 1
      (fun t => t.b == 0x80#8 && t.cc.n && !t.cc.z && t.cc.v && !t.cc.c) = true := by
  decide +kernel

/-- 95_test_vectors.md: ASLD. -/
theorem test_asld :
    steps 0x1000#16 [0x05#8] []
      (fun s => { s with a := 0x80#8, b := 0x00#8 }) 1
      (fun t => t.a == 0x00#8 && t.b == 0x00#8 && !t.cc.n && t.cc.z && t.cc.v && t.cc.c) = true := by
  decide +kernel

/-- 95_test_vectors.md: ASR $2010. -/
theorem test_asr :
    steps 0x1000#16 [0x77#8, 0x20#8, 0x10#8] [(0x2010#16, 0xFE#8)]
      (id) 6
      (fun t => t.cc.n && !t.cc.z && t.cc.v && !t.cc.c && t.peek 0x2010#16 == 0xFF#8) = true := by
  decide +kernel

/-- 95_test_vectors.md: ASRA (C=0). -/
theorem test_asra :
    steps 0x1000#16 [0x47#8] []
      (fun s => { s with a := 0x01#8, cc := CC.ofByte 0xD0#8 }) 1
      (fun t => t.a == 0x00#8 && !t.cc.n && t.cc.z && t.cc.v && t.cc.c) = true := by
  decide +kernel

/-- 95_test_vectors.md: ASRB. -/
theorem test_asrb :
    steps 0x1000#16 [0x57#8] []
      (fun s => { s with b := 0x81#8 }) 1
      (fun t => t.b == 0xC0#8 && t.cc.n && !t.cc.z && !t.cc.v && t.cc.c) = true := by
  decide +kernel

/-- 95_test_vectors.md: BEQ +0x10 (Z=1). -/
theorem test_beq :
    steps 0x1000#16 [0x27#8, 0x10#8] []
      (fun s => { s with cc := CC.ofByte 0xD4#8 }) 3
      (fun t => t.pc == 0x1012#16) = true := by
  decide +kernel

/-- 95_test_vectors.md: BRA +0x10. -/
theorem test_bra :
    steps 0x1000#16 [0x20#8, 0x10#8] []
      (id) 3
      (fun t => t.pc == 0x1012#16) = true := by
  decide +kernel

/-- 95_test_vectors.md: BRN +0x10. -/
theorem test_brn :
    steps 0x1000#16 [0x21#8, 0x10#8] []
      (id) 3
      (fun t => t.pc == 0x1002#16) = true := by
  decide +kernel

/-- 95_test_vectors.md: BSR +0x20. -/
theorem test_bsr :
    steps 0x1000#16 [0x8D#8, 0x20#8] []
      (id) 5
      (fun t => t.pc == 0x1022#16 && t.sp == 0x01FD#16 && t.peek 0x01FE#16 == 0x10#8 &&
        t.peek 0x01FF#16 == 0x02#8) = true := by
  decide +kernel

/-- 95_test_vectors.md: CLC. -/
theorem test_clc :
    steps 0x1000#16 [0x0C#8] []
      (fun s => { s with cc := CC.ofByte 0xFF#8 }) 1
      (fun t => t.cc.h && t.cc.i && t.cc.n && t.cc.z && t.cc.v && !t.cc.c) = true := by
  decide +kernel

/-- 95_test_vectors.md: CLI. -/
theorem test_cli :
    steps 0x1000#16 [0x0E#8] []
      (fun s => { s with cc := CC.ofByte 0xFF#8 }) 1
      (fun t => t.cc.h && !t.cc.i && t.cc.n && t.cc.z && t.cc.v && t.cc.c) = true := by
  decide +kernel

/-- 95_test_vectors.md: CLV. -/
theorem test_clv :
    steps 0x1000#16 [0x0A#8] []
      (fun s => { s with cc := CC.ofByte 0xFF#8 }) 1
      (fun t => t.cc.h && t.cc.i && t.cc.n && t.cc.z && !t.cc.v && t.cc.c) = true := by
  decide +kernel

/-- 95_test_vectors.md: CMPA #0x80. -/
theorem test_cmpa :
    steps 0x1000#16 [0x81#8, 0x80#8] []
      (fun s => { s with a := 0x7F#8 }) 2
      (fun t => t.a == 0x7F#8 && !t.cc.h && t.cc.n && !t.cc.z && t.cc.v && t.cc.c) = true := by
  decide +kernel

/-- 95_test_vectors.md: CMPB $2000. -/
theorem test_cmpb :
    steps 0x1000#16 [0xF1#8, 0x20#8, 0x00#8] [(0x2000#16, 0x05#8)]
      (fun s => { s with b := 0x05#8 }) 4
      (fun t => t.b == 0x05#8 && !t.cc.h && !t.cc.n && t.cc.z && !t.cc.v && !t.cc.c) = true := by
  decide +kernel

/-- 95_test_vectors.md: DAA. -/
theorem test_daa :
    steps 0x1000#16 [0x19#8] []
      (fun s => { s with a := 0x9A#8, cc := { s.cc with h := false, c := false } }) 2
      (fun t => t.a == 0x00#8 && !t.cc.n && t.cc.z && t.cc.c) = true := by
  decide +kernel

/-- 95_test_vectors.md: DECA. -/
theorem test_deca :
    steps 0x1000#16 [0x4A#8] []
      (fun s => { s with a := 0x80#8, cc := CC.ofByte 0xD0#8 }) 1
      (fun t => t.a == 0x7F#8 && !t.cc.n && !t.cc.z && t.cc.v && !t.cc.c) = true := by
  decide +kernel

/-- 95_test_vectors.md: DECB. -/
theorem test_decb :
    steps 0x1000#16 [0x5A#8] []
      (fun s => { s with b := 0x01#8, cc := CC.ofByte 0xD1#8 }) 1
      (fun t => t.b == 0x00#8 && !t.cc.n && t.cc.z && !t.cc.v && t.cc.c) = true := by
  decide +kernel

/-- 95_test_vectors.md: DEX. -/
theorem test_dex :
    steps 0x1000#16 [0x09#8] []
      (fun s => { s with x := 0x0001#16 }) 1
      (fun t => t.x == 0x0000#16 && !t.cc.n && t.cc.z && !t.cc.v && !t.cc.c) = true := by
  decide +kernel

/-- 95_test_vectors.md: EIM #$81,$02,X. -/
theorem test_eim :
    steps 0x1000#16 [0x65#8, 0x81#8, 0x02#8] [(0x2002#16, 0x01#8)]
      (fun s => { s with x := 0x2000#16, cc := CC.ofByte 0xD1#8 }) 7
      (fun t => t.cc.n && !t.cc.z && !t.cc.v && t.cc.c && t.peek 0x2002#16 == 0x80#8) = true := by
  decide +kernel

/-- 95_test_vectors.md: INCA. -/
theorem test_inca :
    steps 0x1000#16 [0x4C#8] []
      (fun s => { s with a := 0x7F#8, cc := CC.ofByte 0xD1#8 }) 1
      (fun t => t.a == 0x80#8 && t.cc.n && !t.cc.z && t.cc.v && t.cc.c) = true := by
  decide +kernel

/-- 95_test_vectors.md: INCB. -/
theorem test_incb :
    steps 0x1000#16 [0x5C#8] []
      (fun s => { s with b := 0xFF#8, cc := CC.ofByte 0xD0#8 }) 1
      (fun t => t.b == 0x00#8 && !t.cc.n && t.cc.z && !t.cc.v && !t.cc.c) = true := by
  decide +kernel

/-- 95_test_vectors.md: INX. -/
theorem test_inx :
    steps 0x1000#16 [0x08#8] []
      (fun s => { s with x := 0xFFFF#16, cc := CC.ofByte 0xDB#8 }) 1
      (fun t => t.x == 0x0000#16 && t.cc.n && t.cc.z && t.cc.v && t.cc.c) = true := by
  decide +kernel

/-- 95_test_vectors.md: JMP $10,X. -/
theorem test_jmp :
    steps 0x1000#16 [0x6E#8, 0x10#8] []
      (fun s => { s with x := 0x2000#16 }) 3
      (fun t => t.pc == 0x2010#16) = true := by
  decide +kernel

/-- 95_test_vectors.md: JSR $10,X. -/
theorem test_jsr :
    steps 0x1000#16 [0xAD#8, 0x10#8] []
      (fun s => { s with x := 0x2000#16 }) 5
      (fun t => t.pc == 0x2010#16 && t.sp == 0x01FD#16 && t.peek 0x01FE#16 == 0x10#8 &&
        t.peek 0x01FF#16 == 0x02#8) = true := by
  decide +kernel

/-- 95_test_vectors.md: LDAA #$00. -/
theorem test_ldaa :
    steps 0x1000#16 [0x86#8, 0x00#8] []
      (fun s => { s with a := 0x55#8, cc := CC.ofByte 0xDB#8 }) 2
      (fun t => t.a == 0x00#8 && !t.cc.n && t.cc.z && !t.cc.v && t.cc.c) = true := by
  decide +kernel

/-- 95_test_vectors.md: LDAB $10,X. -/
theorem test_ldab :
    steps 0x1000#16 [0xE6#8, 0x10#8] [(0x2010#16, 0x7F#8)]
      (fun s => { s with x := 0x2000#16 }) 4
      (fun t => t.b == 0x7F#8 && !t.cc.n && !t.cc.z && !t.cc.v && !t.cc.c) = true := by
  decide +kernel

/-- 95_test_vectors.md: LDD #$8001. -/
theorem test_ldd :
    steps 0x1000#16 [0xCC#8, 0x80#8, 0x01#8] []
      (id) 3
      (fun t => t.a == 0x80#8 && t.b == 0x01#8 && t.cc.n && !t.cc.z && !t.cc.v && !t.cc.c) = true := by
  decide +kernel

/-- 95_test_vectors.md: LDS $40. -/
theorem test_lds :
    steps 0x1000#16 [0x9E#8, 0x40#8] [(0x0040#16, 0xFF#8), (0x0041#16, 0x00#8)]
      (id) 4
      (fun t => t.sp == 0xFF00#16 && t.cc.n && !t.cc.z && !t.cc.v && !t.cc.c) = true := by
  decide +kernel

/-- 95_test_vectors.md: LDX #$0000. -/
theorem test_ldx :
    steps 0x1000#16 [0xCE#8, 0x00#8, 0x00#8] []
      (fun s => { s with x := 0x1111#16 }) 3
      (fun t => t.x == 0x0000#16 && !t.cc.n && t.cc.z && !t.cc.v && !t.cc.c) = true := by
  decide +kernel

/-- 95_test_vectors.md: LSR $00,X. -/
theorem test_lsr :
    steps 0x1000#16 [0x64#8, 0x00#8] [(0x2000#16, 0x03#8)]
      (fun s => { s with x := 0x2000#16 }) 6
      (fun t => !t.cc.n && !t.cc.z && t.cc.v && t.cc.c && t.peek 0x2000#16 == 0x01#8) = true := by
  decide +kernel

/-- 95_test_vectors.md: LSRA (C=0). -/
theorem test_lsra :
    steps 0x1000#16 [0x44#8] []
      (fun s => { s with a := 0x01#8, cc := CC.ofByte 0xD0#8 }) 1
      (fun t => t.a == 0x00#8 && !t.cc.n && t.cc.z && t.cc.v && t.cc.c) = true := by
  decide +kernel

/-- 95_test_vectors.md: LSRB. -/
theorem test_lsrb :
    steps 0x1000#16 [0x54#8] []
      (fun s => { s with b := 0x81#8 }) 1
      (fun t => t.b == 0x40#8 && !t.cc.n && !t.cc.z && t.cc.v && t.cc.c) = true := by
  decide +kernel

/-- 95_test_vectors.md: LSRD. -/
theorem test_lsrd :
    steps 0x1000#16 [0x04#8] []
      (fun s => { s with a := 0x00#8, b := 0x01#8 }) 1
      (fun t => t.a == 0x00#8 && t.b == 0x00#8 && !t.cc.n && t.cc.z && t.cc.v && t.cc.c) = true := by
  decide +kernel

/-- 95_test_vectors.md: MUL. -/
theorem test_mul :
    steps 0x1000#16 [0x3D#8] []
      (fun s => { s with a := 0x00#8, b := 0xFF#8, cc := CC.ofByte 0xDF#8 }) 7
      (fun t => t.a == 0x00#8 && t.b == 0x00#8 && !t.cc.h && t.cc.i && t.cc.n && t.cc.z && t.cc.v &&
        !t.cc.c) = true := by
  decide +kernel

/-- 95_test_vectors.md: NOP. -/
theorem test_nop :
    steps 0x1000#16 [0x01#8] []
      (id) 1
      (fun t => t.pc == 0x1001#16 && !t.cc.h && t.cc.i && !t.cc.n && !t.cc.z && !t.cc.v && !t.cc.c) = true := by
  decide +kernel

/-- 95_test_vectors.md: OIM #$80,$40. -/
theorem test_oim :
    steps 0x1000#16 [0x72#8, 0x80#8, 0x40#8] [(0x0040#16, 0x01#8)]
      (id) 6
      (fun t => t.cc.n && !t.cc.z && !t.cc.v && !t.cc.c && t.peek 0x0040#16 == 0x81#8) = true := by
  decide +kernel

/-- 95_test_vectors.md: ROL $2010 (C=0). -/
theorem test_rol :
    steps 0x1000#16 [0x79#8, 0x20#8, 0x10#8] [(0x2010#16, 0xFF#8)]
      (id) 6
      (fun t => t.cc.n && !t.cc.z && !t.cc.v && t.cc.c && t.peek 0x2010#16 == 0xFE#8) = true := by
  decide +kernel

/-- 95_test_vectors.md: ROLA. -/
theorem test_rola :
    steps 0x1000#16 [0x49#8] []
      (fun s => { s with a := 0x80#8, cc := CC.ofByte 0xD0#8 }) 1
      (fun t => t.a == 0x00#8 && !t.cc.n && t.cc.z && t.cc.v && t.cc.c) = true := by
  decide +kernel

/-- 95_test_vectors.md: ROLB (C=1). -/
theorem test_rolb :
    steps 0x1000#16 [0x59#8] []
      (fun s => { s with b := 0x7F#8, cc := CC.ofByte 0xD1#8 }) 1
      (fun t => t.b == 0xFF#8 && t.cc.n && !t.cc.z && t.cc.v && !t.cc.c) = true := by
  decide +kernel

/-- 95_test_vectors.md: ROR $FF,X (C=1). -/
theorem test_ror :
    steps 0x1000#16 [0x66#8, 0xFF#8] [(0x20FF#16, 0x02#8)]
      (fun s => { s with x := 0x2000#16, cc := CC.ofByte 0xD1#8 }) 6
      (fun t => t.cc.n && !t.cc.z && t.cc.v && !t.cc.c && t.peek 0x20FF#16 == 0x81#8) = true := by
  decide +kernel

/-- 95_test_vectors.md: RORA (C=0). -/
theorem test_rora :
    steps 0x1000#16 [0x46#8] []
      (fun s => { s with a := 0x01#8, cc := CC.ofByte 0xD0#8 }) 1
      (fun t => t.a == 0x00#8 && !t.cc.n && t.cc.z && t.cc.v && t.cc.c) = true := by
  decide +kernel

/-- 95_test_vectors.md: RORB (C=1). -/
theorem test_rorb :
    steps 0x1000#16 [0x56#8] []
      (fun s => { s with b := 0xFE#8, cc := CC.ofByte 0xD1#8 }) 1
      (fun t => t.b == 0xFF#8 && t.cc.n && !t.cc.z && t.cc.v && !t.cc.c) = true := by
  decide +kernel

/-- 95_test_vectors.md: RTI. -/
theorem test_rti :
    steps 0x1000#16 [0x3B#8] [(0x01F9#16, 0x01#8), (0x01FA#16, 0x22#8), (0x01FB#16, 0x11#8),
      (0x01FC#16, 0x33#8), (0x01FD#16, 0x44#8), (0x01FE#16, 0x10#8), (0x01FF#16, 0x01#8)]
      (fun s => { s with sp := 0x01F8#16 }) 10
      (fun t => t.pc == 0x1001#16 && t.sp == 0x01FF#16 && t.cc.toByte == 0xC1#8 && t.a == 0x11#8 &&
        t.b == 0x22#8 && t.x == 0x3344#16) = true := by
  decide +kernel

/-- 95_test_vectors.md: RTS. -/
theorem test_rts :
    steps 0x1000#16 [0x39#8] [(0x01FE#16, 0x10#8), (0x01FF#16, 0x03#8)]
      (fun s => { s with sp := 0x01FD#16 }) 5
      (fun t => t.pc == 0x1003#16 && t.sp == 0x01FF#16) = true := by
  decide +kernel

/-- 95_test_vectors.md: SBCA #0xFF. -/
theorem test_sbca :
    steps 0x1000#16 [0x82#8, 0xFF#8] []
      (fun s => { s with a := 0x7F#8, cc := CC.ofByte 0xD0#8 }) 2
      (fun t => t.a == 0x80#8 && !t.cc.h && t.cc.n && !t.cc.z && t.cc.v && t.cc.c) = true := by
  decide +kernel

/-- 95_test_vectors.md: SBCB #$7F (C=1). -/
theorem test_sbcb :
    steps 0x1000#16 [0xC2#8, 0x7F#8] []
      (fun s => { s with b := 0x80#8, cc := CC.ofByte 0xD1#8 }) 2
      (fun t => t.b == 0x00#8 && !t.cc.h && !t.cc.n && t.cc.z && t.cc.v && !t.cc.c) = true := by
  decide +kernel

/-- 95_test_vectors.md: SEC. -/
theorem test_sec :
    steps 0x1000#16 [0x0D#8] []
      (fun s => { s with cc := CC.ofByte 0xC0#8 }) 1
      (fun t => !t.cc.h && !t.cc.i && !t.cc.n && !t.cc.z && !t.cc.v && t.cc.c) = true := by
  decide +kernel

/-- 95_test_vectors.md: SEI. -/
theorem test_sei :
    steps 0x1000#16 [0x0F#8] []
      (fun s => { s with cc := CC.ofByte 0xC0#8 }) 1
      (fun t => !t.cc.h && t.cc.i && !t.cc.n && !t.cc.z && !t.cc.v && !t.cc.c) = true := by
  decide +kernel

/-- 95_test_vectors.md: SEV. -/
theorem test_sev :
    steps 0x1000#16 [0x0B#8] []
      (fun s => { s with cc := CC.ofByte 0xC0#8 }) 1
      (fun t => !t.cc.h && !t.cc.i && !t.cc.n && !t.cc.z && t.cc.v && !t.cc.c) = true := by
  decide +kernel

/-- 95_test_vectors.md: SLP. -/
theorem test_slp :
    steps 0x1000#16 [0x1A#8] []
      (fun s => { s with cc := CC.ofByte 0xC0#8 }) 4
      (fun t => t.pc == 0x1001#16 && t.sp == 0x01FF#16 && t.mode == .waitSlp && t.tim.cnt == 0x0004#16) = true := by
  decide +kernel

/-- 95_test_vectors.md: STAA $40. -/
theorem test_staa :
    steps 0x1000#16 [0x97#8, 0x40#8] []
      (fun s => { s with a := 0x80#8, cc := CC.ofByte 0xD3#8 }) 3
      (fun t => t.cc.n && !t.cc.z && !t.cc.v && t.cc.c && t.peek 0x0040#16 == 0x80#8) = true := by
  decide +kernel

/-- 95_test_vectors.md: STAB $01,X. -/
theorem test_stab :
    steps 0x1000#16 [0xE7#8, 0x01#8] []
      (fun s => { s with b := 0x00#8, x := 0x2000#16 }) 4
      (fun t => !t.cc.n && t.cc.z && !t.cc.v && !t.cc.c && t.peek 0x2001#16 == 0x00#8) = true := by
  decide +kernel

/-- 95_test_vectors.md: STD $FF,X. -/
theorem test_std :
    steps 0x1000#16 [0xED#8, 0xFF#8] []
      (fun s => { s with a := 0x80#8, b := 0x00#8, x := 0x2000#16 }) 5
      (fun t => t.cc.n && !t.cc.z && !t.cc.v && !t.cc.c && t.peek 0x20FF#16 == 0x80#8 &&
        t.peek 0x2100#16 == 0x00#8) = true := by
  decide +kernel

/-- 95_test_vectors.md: STX $2000. -/
theorem test_stx :
    steps 0x1000#16 [0xFF#8, 0x20#8, 0x00#8] []
      (fun s => { s with x := 0xABCD#16 }) 5
      (fun t => t.cc.n && !t.cc.z && !t.cc.v && !t.cc.c && t.peek 0x2000#16 == 0xAB#8 &&
        t.peek 0x2001#16 == 0xCD#8) = true := by
  decide +kernel

/-- 95_test_vectors.md: SUBA #$01. -/
theorem test_suba :
    steps 0x1000#16 [0x80#8, 0x01#8] []
      (fun s => { s with a := 0x00#8 }) 2
      (fun t => t.a == 0xFF#8 && !t.cc.h && t.cc.n && !t.cc.z && !t.cc.v && t.cc.c) = true := by
  decide +kernel

/-- 95_test_vectors.md: SUBB $10,X. -/
theorem test_subb :
    steps 0x1000#16 [0xE0#8, 0x10#8] [(0x2010#16, 0x50#8)]
      (fun s => { s with b := 0x50#8, x := 0x2000#16 }) 4
      (fun t => t.b == 0x00#8 && !t.cc.h && !t.cc.n && t.cc.z && !t.cc.v && !t.cc.c) = true := by
  decide +kernel

/-- 95_test_vectors.md: SUBD #$0001. -/
theorem test_subd :
    steps 0x1000#16 [0x83#8, 0x00#8, 0x01#8] []
      (fun s => { s with a := 0x00#8, b := 0x00#8 }) 3
      (fun t => t.a == 0xFF#8 && t.b == 0xFF#8 && !t.cc.h && t.cc.n && !t.cc.z && !t.cc.v && t.cc.c) = true := by
  decide +kernel

/-- 95_test_vectors.md: TAP. -/
theorem test_tap :
    steps 0x1000#16 [0x06#8] []
      (fun s => { s with a := 0x3F#8 }) 1
      (fun t => t.cc.toByte == 0xFF#8 && t.cc.h && t.cc.i && t.cc.n && t.cc.z && t.cc.v && t.cc.c) = true := by
  decide +kernel

/-- 95_test_vectors.md: TIM #$80,$40. -/
theorem test_tim :
    steps 0x1000#16 [0x7B#8, 0x80#8, 0x40#8] [(0x0040#16, 0x80#8)]
      (id) 4
      (fun t => t.cc.n && !t.cc.z && !t.cc.v && !t.cc.c && t.peek 0x0040#16 == 0x80#8) = true := by
  decide +kernel

/-- 95_test_vectors.md: TPA. -/
theorem test_tpa :
    steps 0x1000#16 [0x07#8] []
      (fun s => { s with cc := CC.ofByte 0xD5#8 }) 1
      (fun t => t.a == 0xD5#8) = true := by
  decide +kernel

/-- 95_test_vectors.md: WAI. -/
theorem test_wai :
    steps 0x1000#16 [0x3E#8] []
      (fun s => { s with cc := CC.ofByte 0xC0#8 }) 9
      (fun t => t.pc == 0x1001#16 && t.sp == 0x01FF#16 && t.mode == .waitWai && t.tim.cnt == 0x0009#16) = true := by
  decide +kernel

/-- 95_test_vectors.md: illegal 0x03, policy nop. -/
theorem test_illegal_nop :
    steps 0x1000#16 [0x03#8] []
      (fun s => { s with a := 0x11#8, cfg := { s.cfg with illegalPolicy := .nop }, cc := CC.ofByte 0xC1#8 }) 5
      (fun t => t.pc == 0x1001#16 && t.sp == 0x01FF#16 && t.cc.toByte == 0xC1#8 && t.a == 0x11#8 &&
        t.tim.cnt == 0x0005#16) = true := by
  decide +kernel

/-- 95_test_vectors.md: illegal 0x00, policy trap. -/
theorem test_illegal_trap :
    steps 0x1000#16 [0x00#8] [(0xFFEE#16, 0xE0#8), (0xFFEF#16, 0x00#8)]
      (fun s => { s with a := 0x11#8, b := 0x22#8, x := 0x3344#16, cc := CC.ofByte 0xC1#8 }) 12
      (fun t => t.pc == 0xE000#16 && t.sp == 0x01F8#16 && t.cc.toByte == 0xD1#8 &&
        t.tim.cnt == 0x000C#16) = true := by
  decide +kernel

theorem test_bhi : branches 0x22#8 0xD0#8 0xD5#8 = true := by decide +kernel

theorem test_bls : branches 0x23#8 0xD4#8 0xD0#8 = true := by decide +kernel

theorem test_bcc : branches 0x24#8 0xD0#8 0xD1#8 = true := by decide +kernel

theorem test_bcs : branches 0x25#8 0xD1#8 0xD0#8 = true := by decide +kernel

theorem test_bne : branches 0x26#8 0xD0#8 0xD4#8 = true := by decide +kernel

theorem test_bvc : branches 0x28#8 0xD0#8 0xD2#8 = true := by decide +kernel

theorem test_bvs : branches 0x29#8 0xD2#8 0xD0#8 = true := by decide +kernel

theorem test_bpl : branches 0x2A#8 0xD0#8 0xD8#8 = true := by decide +kernel

theorem test_bmi : branches 0x2B#8 0xD8#8 0xD0#8 = true := by decide +kernel

theorem test_bge : branches 0x2C#8 0xDA#8 0xD8#8 = true := by decide +kernel

theorem test_blt : branches 0x2D#8 0xD2#8 0xDA#8 = true := by decide +kernel

theorem test_bgt : branches 0x2E#8 0xDA#8 0xDE#8 = true := by decide +kernel

theorem test_ble : branches 0x2F#8 0xD4#8 0xDA#8 = true := by decide +kernel

/-! The host's two entry points. -/

/-- The first byte of an instruction is bits 7 to 0 of the host's number. -/
theorem test_decodeTableWord :
    decodeTableWord 8 0x3B = some .rti ∧ decodeTableWord 16 0x0586 = some (.ldaaImm 0x05#8) ∧
      decodeTableWord 24 0x4008_72 = some (.oimDir 0x08#8 0x40#8) ∧ decodeTableWord 8 0x7E = some (.jmpExt 0x0000#16) ∧
      decodeTableWord 8 0x10 = none := by
  decide +kernel

/-- The step after `withFetchWord` runs the instruction: LDAA #0x05 from reset. -/
theorem test_withFetchWord :
    (match step (State.reset.withFetchWord 16 0x0586) with
      | .next t => t.a == 0x05#8 && t.pc == State.reset.pc + 2#16 && t.total == 2
      | .fault _ => false
      | .refused _ => false) = true := by
  decide +kernel

/-! A witness for the hypotheses of each statement that has any, named for it. -/

/-- A running state of the reference configuration with nothing pending: the mask is set. -/
def running (bytes : List Byte) : State := start 0x1000#16 bytes []

theorem witness_DecodeReadsOnlyEncodings : decode [0x86#8, 0x05#8, 0x01#8] = .ok (.ldaaImm 0x05#8, [0x01#8]) := rfl

theorem witness_OpcodeByteGivesLength :
    decode (0x3B#8 :: []) = .ok (.rti, []) ∧ decode (0x86#8 :: [0xFF#8]) = .ok (.ldaaImm 0xFF#8, []) ∧
      decode (0x72#8 :: [0xFF#8, 0x00#8, 0x01#8]) = .ok (.oimDir 0xFF#8 0x00#8, [0x01#8]) ∧
      (start 0xFFFF#16 [0xCE#8] []).fetchMany 2 = .ok ([0xCE#8, 0xFF#8], (start 0xFFFF#16 [0xCE#8] []).setPc 0x0001#16) :=
  ⟨rfl, rfl, rfl, by decide +kernel⟩

theorem witness_OperandForms :
    (start 0x1000#16 [0xCE#8, 0x12#8, 0x34#8] []).fetch =
      .ok (0xCE#8, .ldxImm 0x1234#16, (start 0x1000#16 [0xCE#8, 0x12#8, 0x34#8] []).setPc 0x1003#16) := by
  decide +kernel

theorem witness_UnspecifiedSlotsAreRefused :
    (running [0x10#8]).cfg.wf = true ∧ (running [0x10#8]).cfg.table = [] ∧ (running [0x10#8]).poll = none ∧
      (running [0x10#8]).mode = .run ∧ windowReg (running [0x10#8]).cfg (running [0x10#8]).pc = none ∧
      rowOf ((running [0x10#8]).peek (running [0x10#8]).pc) = none ∧
      (let c := { Config.reference with hasExtOps := false }
       c.table = [] ∧ Instr.wf c (.jsrDir 0x80#8) = false ∧ Instr.wf c .slp = false) :=
  ⟨by decide +kernel, rfl, by decide +kernel, rfl, by decide +kernel, rfl, rfl, rfl, rfl⟩

/-- The state at a refusal is the state after the opcode fetch (R275). -/
theorem test_refusal_state :
    step (running [0x10#8]) = .refused (.unspecifiedSlot 0x10#8 ((running [0x10#8]).setPc 0x1001#16)) := rfl

/-- The hypotheses of `StepRunsDecodedInstruction` on a state. -/
def StepHypotheses (s : State) (i : Instr) : Prop :=
  s.cfg.wf = true ∧ s.cfg.table = [] ∧ i.wf s.cfg = true ∧ s.poll = none ∧ s.mode = .run ∧
    Unclaimed s.cfg s.pc i.length ∧ decode (readUp s s.pc i.length).1 = .ok (i, []) ∧
    ∃ t, exec i ((readUp s s.pc i.length).2.setPc (s.pc + BitVec.ofNat 16 i.length)) = .next t

/-- A three-byte instruction that runs; an illegal slot under each policy. -/
theorem witness_StepRunsDecodedInstruction :
    StepHypotheses (running [0x72#8, 0x80#8, 0x40#8]) (.oimDir 0x80#8 0x40#8) ∧
      (rowOf (Instr.oimDir 0x80#8 0x40#8).opcode).any (fun r => r.slot.isIllegal) = false ∧
      StepHypotheses (running [0x02#8]) .illegal02 ∧
      (rowOf Instr.illegal02.opcode).any (fun r => r.slot.isIllegal) = true ∧
      (running [0x02#8]).cfg.illegalPolicy = .trap ∧
      StepHypotheses { running [0x02#8] with cfg := { Config.reference with illegalPolicy := .nop } } .illegal02 := by
  have pr : ∀ (s : State) (n : Nat), (List.range n).all (fun k => windowReg s.cfg (s.pc + BitVec.ofNat 16 k) == none) = true →
      Unclaimed s.cfg s.pc n := fun s n h k hk => beq_iff_eq.mp (List.all_eq_true.mp h k (List.mem_range.mpr hk))
  refine ⟨⟨by decide +kernel, rfl, rfl, by decide +kernel, rfl, pr _ _ (by decide +kernel), rfl, _, rfl⟩, rfl,
    ⟨by decide +kernel, rfl, rfl, by decide +kernel, rfl, pr _ _ (by decide +kernel), rfl, _, rfl⟩, rfl, rfl,
    ⟨by decide +kernel, rfl, rfl, by decide +kernel, rfl, pr _ _ (by decide +kernel), rfl, _, rfl⟩⟩

/-- A table that gives slot 0x10 the operation of 0x86 for 12 cycles, 0x11 an illegal entry, 0x12 none. -/
def tableState (op : Byte) : State :=
  { running [op, 0x05#8] with
    cfg := { Config.reference with
      table := [(0x10#8, .op 0x86#8 12), (0x11#8, .illegal 1), (0x12#8, .unspecified)], illegalPolicy := .nop } }

theorem witness_StepFollowsDispatchTable :
    (tableState 0x10#8).cfg.wf = true ∧ (tableState 0x10#8).poll = none ∧ (tableState 0x10#8).mode = .run ∧
      windowReg (tableState 0x10#8).cfg (tableState 0x10#8).pc = none ∧
      windowReg (tableState 0x10#8).cfg ((tableState 0x10#8).pc + 1#16) = none ∧
      (tableState 0x10#8).peek (tableState 0x10#8).pc = 0x10#8 ∧
      entryOf (tableState 0x10#8).cfg 0x10#8 = .op 0x86#8 12 ∧
      decode (0x86#8 :: (readUp (tableState 0x10#8) (tableState 0x10#8).pc 2).1.tail) = .ok (.ldaaImm 0x05#8, []) ∧
      (∃ t, exec (.ldaaImm 0x05#8) ((tableState 0x10#8).setPc 0x1002#16) = .next t) ∧
      entryOf (tableState 0x11#8).cfg ((tableState 0x11#8).peek 0x1000#16) = .illegal 1 ∧
      (tableState 0x11#8).cfg.illegalPolicy = .nop ∧
      entryOf (running [0x03#8]).cfg ((running [0x03#8]).peek 0x1000#16) = .illegal 5 ∧
      (running [0x03#8]).cfg.illegalPolicy = .trap ∧
      entryOf (tableState 0x12#8).cfg ((tableState 0x12#8).peek 0x1000#16) = .unspecified :=
  ⟨by decide +kernel, by decide +kernel, rfl, by decide +kernel, by decide +kernel, rfl, by decide +kernel, rfl, ⟨_, rfl⟩,
    by decide +kernel, rfl, by decide +kernel, rfl, by decide +kernel⟩

/-- PC at TCSR; the first operand byte there; the second operand byte there; none there. -/
theorem witness_WindowFetchIsRefused :
    (windowReg Config.reference 0x0008#16).isSome = true ∧
      (let s := start 0x0007#16 [0x86#8] []
       1 < slotLength s.cfg (s.extRead s.pc) ∧ windowReg s.cfg s.pc = none ∧
         (windowReg s.cfg (s.pc + 1#16)).isSome = true) ∧
      (let s := start 0x0006#16 [0x7E#8, 0x10#8] []
       2 < slotLength s.cfg (s.extRead s.pc) ∧ windowReg s.cfg s.pc = none ∧ windowReg s.cfg (s.pc + 1#16) = none ∧
         (windowReg s.cfg (s.pc + 2#16)).isSome = true ∧ s.cfg.wf = true ∧ s.poll = none ∧ s.mode = .run ∧
         s.fetch = .error (.fetchFromWindow 0x0008#16)) :=
  ⟨by decide +kernel, ⟨by decide +kernel, by decide +kernel, by decide +kernel⟩, by decide +kernel, by decide +kernel,
    by decide +kernel, by decide +kernel, by decide +kernel, by decide +kernel, rfl, rfl⟩

theorem witness_ResetSequenceValues :
    Config.reference.wf = true ∧ (State.reset.setLine .reset true).rstPend = true := by decide +kernel

/-- Each interrupt source, requested alone with the mask clear. -/
theorem witness_InterruptIsTakenByTheStep :
    let s := State.reset.setCc { State.reset.cc with i := false }
    s.cfg.wf = true ∧ (State.reset.setLine .nmi true).poll = some .nmi ∧ (s.setLine .irq true).poll = some .irq ∧
      State.poll { s with tim := { s.tim with tcsr := 0x90#8 } } = some .icf ∧
      State.poll { s with tim := { s.tim with tcsr := 0x48#8 } } = some .ocf ∧
      State.poll { s with tim := { s.tim with tcsr := 0x24#8 } } = some .tof ∧
      State.poll { s with sci := { s.sci with trcsr := 0x28#8 } } = some .sci := by
  decide +kernel

theorem witness_IllegalSlotTrapsOrDoesNothing :
    Config.reference.illegalPolicy = .trap ∧ Config.reference.wf = true ∧ (tableState 0x11#8).cfg.illegalPolicy = .nop ∧
      (0x11#8, Entry.illegal 1) ∈ (tableState 0x11#8).cfg.table ∧ (tableState 0x11#8).cfg.wf = true ∧
      entryOf (tableState 0x11#8).cfg 0x11#8 = .illegal 1 ∧ entryOf Config.reference 0x00#8 = .illegal 5 := by
  decide +kernel

/-- A range of plain addresses, from a check of each. -/
theorem plainRange_of_all {c : Config} {a : Word} {n : Nat}
    (h : (List.range n).all (fun k => plainAddr c (a + BitVec.ofNat 16 k)) = true) : PlainRange c a n :=
  fun k hk => List.all_eq_true.mp h k (List.mem_range.mpr hk)

theorem witness_EntryThenRtiRestores : (running []).StackReady := plainRange_of_all (by decide +kernel)

theorem witness_WaitingStepOnlyAdvances :
    let s := (running []).setMode .waitSlp
    s.cfg.wf = true ∧ s.mode ≠ .run ∧ s.poll = none := by decide +kernel

/-- A wait with the compare due in 65,535 cycles. -/
theorem witness_WaitEndsAtCompareMatch :
    let s := { running [] with
      mode := .waitWai, cc := CC.ofByte 0xC0#8, tim := { State.reset.tim with tcsr := 0x08#8, ocr := 0x0000#16 } }
    s.cfg.wf = true ∧ s.cfg.hasTimer = true ∧ s.mode ≠ .run ∧ s.poll = none ∧ s.cc.i = false ∧
      s.tim.tcsr.getLsbD 3 = true ∧ s.tim.tcsr.getLsbD 2 = false ∧ s.sci.rie = false ∧ s.sci.tie = false ∧
      (s.tim.ocr - s.tim.cnt - 1#16).toNat = 65535 := by
  decide +kernel

/-- The hypotheses hold of the reference configuration and of one with an entry at the bound; a run with a budget ends in
a state. -/
theorem witness_RunStaysWithinBudget :
    Config.reference.wf = true ∧ Config.reference.cInt ≤ 12 ∧ Config.reference.cTrap ≤ 12 ∧ Config.reference.cIllegal ≤ 12 ∧
      (∀ e ∈ [((0x11#8 : Byte), Entry.illegal 12)], ∀ k, e.2 = .illegal k → k ≤ 12) ∧
      (match (running [0x20#8, 0xFE#8]).run 1 with
        | some (.next t) => t.icount == -2 && t.total == 3
        | some (.fault _) | some (.refused _) | none => false) = true := by
  refine ⟨by decide +kernel, by decide +kernel, by decide +kernel, by decide +kernel, ?_, by decide +kernel⟩
  intro e he k hk
  rw [List.mem_singleton] at he
  subst he
  cases hk
  decide

/-- A step that answers a next state. -/
theorem witness_EveryStepMakesProgress : ∃ t, step (running [0x01#8]) = .next t ∧ (running [0x01#8]).rstPend = false :=
  ⟨_, rfl, rfl⟩

/-- A state with the invariant whose step answers a next state. -/
theorem witness_StepKeepsInvariant : (running [0x01#8]).Inv ∧ ∃ t, step (running [0x01#8]) = .next t := by
  refine ⟨⟨by decide +kernel, by decide +kernel, ?_, ⟨by decide +kernel, by decide +kernel, fun _ => rfl, fun _ => rfl,
    fun _ => rfl⟩⟩, _, rfl⟩
  unfold Timer.Inv
  decide +kernel

theorem witness_HostOperationsKeepInvariant :
    (running [0x01#8]).Inv ∧ State.reset.resetLine = false ∧ (State.reset.setLine .reset true).resetLine = true :=
  ⟨witness_StepKeepsInvariant.1, rfl, rfl⟩

theorem witness_ConfigurationNeverChanges :
    (∃ t, step (running [0x01#8]) = .next t) ∧ (∃ t, exec .rti (running []) = .next t) ∧
      ∃ t, (running [0x01#8]).run 1 = some (.next t) :=
  ⟨⟨_, rfl⟩, ⟨_, rfl⟩, ⟨_, rfl⟩⟩

/-- For an instruction that writes none of the registers, and one that writes none of the flags. -/
theorem witness_ExecChangesOnlyItsRegisters :
    (∃ t, exec (.staaDir 0x80#8) (running []) = .next t) ∧
      writesRegs (.staaDir 0x80#8) = ⟨false, false, false, false, false, false⟩ ∧
      ∃ t, exec .daa (running []) = .next t :=
  ⟨⟨_, rfl⟩, rfl, ⟨_, rfl⟩⟩

theorem witness_ExecChangesOnlyItsFlags :
    (∃ t, exec .rts (running []) = .next t) ∧ writesFlags .rts = ⟨false, false, false, false, false, false⟩ :=
  ⟨⟨_, rfl⟩, rfl⟩

/-- A store of a word at the top of memory, whose bytes are 0xFFFF and 0x0000. -/
theorem witness_ExecStoresOnlyWhereItSays :
    (∃ t, exec (.stdExt 0xFFFF#16) (running []) = .next t) ∧
      stores (running []) (.stdExt 0xFFFF#16) = [0xFFFF#16, 0x0000#16] ∧
      ramCell (running []).cfg 0xFFFF#16 ≠ some 0x0001#16 ∧ ramCell (running []).cfg 0x0000#16 ≠ some 0x0001#16 ∧
      readCell (running []).cfg 0x0001#16 = some 0x0001#16 ∧ plainAddr (running []).cfg 0x0001#16 = true :=
  ⟨⟨_, rfl⟩, by decide +kernel, by decide +kernel, by decide +kernel, by decide +kernel, by decide +kernel⟩

theorem witness_ExecTouchesPeripheralsOnlyThroughWindow :
    (∃ t, exec (.aslExt 0x2000#16) (running []) = .next t) ∧
      ∀ addr ∈ stores (running []) (.aslExt 0x2000#16) ++ Claims.reads (running []) (.aslExt 0x2000#16),
        windowReg (running []).cfg addr = none ∧ deviceAddr (running []).cfg addr = false := by
  have h : stores (running []) (.aslExt 0x2000#16) ++ Claims.reads (running []) (.aslExt 0x2000#16) =
      [0x2000#16, 0x2000#16] := rfl
  rw [h]
  refine ⟨⟨_, rfl⟩, fun addr ha => ?_⟩
  have ha : addr = 0x2000#16 := by simpa using ha
  rw [ha]
  decide +kernel

theorem witness_DaaResult : 99 < 100 ∧ State.a { running [] with a := 0x99#8 } = bcd 99 := by decide +kernel

theorem witness_BcdAdditionWithCarry :
    99 < 100 ∧ State.a { running [] with a := 0x99#8, cc := CC.ofByte 0xD1#8 } = bcd 99 := by decide +kernel

theorem witness_ShiftMemoryAndDResult :
    shiftMem .ror (.idx 0xFF#8) = some (.rorIdx 0xFF#8) ∧ shiftMem .asl (.ext 0xFFFF#16) = some (.aslExt 0xFFFF#16) :=
  ⟨rfl, rfl⟩

theorem witness_MaskMemoryResult :
    maskMem .tim 0x01#8 (.idx 0xFF#8) = some (.timIdx 0x01#8 0xFF#8) ∧
      maskMem .aim 0x01#8 (.dir 0xFF#8) = some (.aimDir 0x01#8 0xFF#8) :=
  ⟨rfl, rfl⟩

/-- Flags that meet each condition, and flags that do not. -/
theorem witness_BranchOnOneFlag :
    (CC.ofByte 0x00#8).c = false ∧ (CC.ofByte 0x01#8).c = true ∧ (CC.ofByte 0x00#8).z = false ∧ (CC.ofByte 0x04#8).z = true ∧
      (CC.ofByte 0x00#8).v = false ∧ (CC.ofByte 0x02#8).v = true ∧ (CC.ofByte 0x00#8).n = false ∧
      (CC.ofByte 0x08#8).n = true := by
  decide

/-- A compare that answers a next state, with an operand below, at and above the accumulator in both orders. -/
theorem witness_BranchOnComparison :
    (∃ t, exec (Claims.cmp .A (.imm 0x7F#8)) (running []) = .next t) ∧
      (0x7F#8 : Byte).toNat < (0x80#8 : Byte).toNat ∧ (0x80#8 : Byte).toInt < (0x7F#8 : Byte).toInt ∧
      ¬ (0x80#8 : Byte).toNat < (0x80#8 : Byte).toNat ∧ ¬ (0x7F#8 : Byte).toInt < (0x80#8 : Byte).toInt ∧
      ((CC.ofByte 0x0A#8).n = (CC.ofByte 0x0A#8).v ∧ (CC.ofByte 0x08#8).n ≠ (CC.ofByte 0x08#8).v) :=
  ⟨⟨_, rfl⟩, by decide, by decide, by decide, by decide, by decide⟩

theorem witness_TransferResult :
    jmp (.idx 0xFF#8) = some (.jmpIdx 0xFF#8) ∧ jmp (.ext 0xC000#16) = some (.jmpExt 0xC000#16) := ⟨rfl, rfl⟩

theorem witness_CallThenReturn :
    ((∃ m, Instr.jsrDir 0x80#8 = jsr m) ∨ ∃ rr, Instr.jsrDir 0x80#8 = .bsr rr) ∧
      ((∃ m, Instr.bsr 0xFE#8 = jsr m) ∨ ∃ rr, Instr.bsr 0xFE#8 = .bsr rr) ∧
      PlainRange (running []).cfg ((running []).sp - 1#16) 2 :=
  ⟨.inl ⟨.dir 0x80#8, rfl⟩, .inr ⟨0xFE#8, rfl⟩, plainRange_of_all (by decide +kernel)⟩

/-- An environment with ROM from 0xF000, a mirror of the RAM at 0x2000, a device and an unpopulated range. -/
def mapped : State :=
  { running [] with cfg := { Config.reference with regions := [⟨0xF000#16, 0xFFFF#16, .rom 0xF000#16⟩,
      ⟨0x3000#16, 0x3FFF#16, .ram 0x2000#16⟩, ⟨0x4000#16, 0x4000#16, .device⟩, ⟨0x4001#16, 0x7FFF#16, .idle⟩] } }

/-- RAM at its own cell and through a mirror, ROM, an unpopulated address, a device, a claimed register; a canonical memory
and one that is not. -/
theorem witness_MemoryIsRamAndCanonical :
    ramCell mapped.cfg 0x2FFF#16 = some 0x2FFF#16 ∧ ramCell mapped.cfg 0x3FFF#16 = some 0x2FFF#16 ∧
      readCell mapped.cfg 0x3FFF#16 = some 0x2FFF#16 ∧ readCell mapped.cfg 0xFFFF#16 = some 0xFFFF#16 ∧
      mapped.cfg.backing 0xF000#16 = .rom 0xF000#16 ∧ mapped.cfg.backing 0x7FFF#16 = .idle ∧
      mapped.cfg.backing 0x4000#16 = .device ∧ windowReg mapped.cfg 0xF000#16 = none ∧
      windowReg mapped.cfg 0x7FFF#16 = none ∧ windowReg mapped.cfg 0x4000#16 = none ∧ ramCell mapped.cfg 0xFFFF#16 = none ∧
      ramCell mapped.cfg 0x0013#16 = none ∧ plainAddr mapped.cfg 0x3FFF#16 = false ∧
      Memory.wf [(0, 0x00#8), (65535, 0x01#8)] = true ∧ Memory.wf [(0, 0xFF#8)] = false := by
  decide +kernel

/-- A write through a mirror is read at the cell's own address; one to ROM, or where nothing is, changes nothing (R61). -/
theorem test_environment_writes :
    (mapped.write8 0x3001#16 0x5A#8).peek 0x2001#16 = 0x5A#8 ∧ mapped.write8 0xF000#16 0x5A#8 = mapped ∧
      mapped.write8 0x7FFF#16 0x5A#8 = mapped := by
  decide +kernel

/-- A device sees every read and write of it, and nothing else (R61). -/
theorem test_environment_device :
    ((mapped.read8 0x4000#16).2.write8 0x4000#16 0x12#8).devLog =
        [⟨0, 0x4000#16, some 0x12#8⟩, ⟨0, 0x4000#16, none⟩] ∧
      (mapped.write8 0x4000#16 0x12#8).mem = mapped.mem := by
  decide +kernel

theorem witness_WindowRegisters :
    State.reset.cfg.hasTimer = true ∧ State.reset.cfg.hasSci = true ∧ State.reset.cfg.clFallthrough = true ∧
      ({ Config.reference with clFallthrough := false } : Config).clFallthrough = false ∧
      (windowReg Config.reference 0x0008#16).isSome = true ∧ (windowReg Config.reference 0x0013#16).isSome = true ∧
      ({ Config.reference with hasTimer := false } : Config).hasTimer = false ∧
      ({ Config.reference with hasSci := false } : Config).hasSci = false := by
  decide +kernel

/-- Every listed read changes something in some state; an address that is not claimed. -/
theorem witness_ReadSideEffectsAreListed :
    let s := { State.reset with
      tim := { State.reset.tim with tcsr := 0xE0#8, tpend := 0x60#8 }, sci := { State.reset.sci with trcsr := 0x80#8 } }
    let t := { s with tim := { s.tim with tpend := 0xE0#8 } }
    s.readEffect 0x0008#16 ≠ s ∧ t.readEffect 0x0009#16 ≠ t ∧ t.readEffect 0x000A#16 ≠ t ∧ t.readEffect 0x000B#16 ≠ t ∧
      t.readEffect 0x000D#16 ≠ t ∧ t.readEffect 0x0012#16 ≠ t ∧ windowReg s.cfg 0x000F#16 = none ∧ deviceAddr mapped.cfg 0x4000#16 = true ∧
      deviceAddr s.cfg 0x0008#16 = false := by
  decide +kernel

/-- A flag that is set and one that is clear, with accesses between that are not its own and do not raise it. -/
theorem witness_TimerFlagProtocol :
    let t := { State.reset.tim with tcsr := 0x40#8, ocr := 0x0010#16 }
    let ops := [TimerOp.readCh, .advance 15, .setTin true]
    (∀ o ∈ ops, o ≠ .readTcsr) ∧ TimerOp.readOcrh.qualifies .ocf = true ∧ (TimerOp.writeOcrl 0#8).qualifies .ocf = true ∧
      t.flag .ocf = true ∧ (∀ o ∈ ops, o.qualifies .ocf = false) ∧ NeverRaised .ocf t.armFlags ops ∧
      TimerOp.readCh.qualifies .tof = true ∧ t.flag .tof = false :=
  ⟨by decide +kernel, rfl, rfl, rfl, by decide +kernel, ⟨by decide +kernel, by decide +kernel, by decide +kernel, trivial⟩,
    rfl, rfl⟩

/-- Six cycles are not enough, for any timer; the two writes; OCR at 0xFFFF after reset. -/
theorem witness_CounterWritesLoadAndPreset :
    6 ≤ 6 ∧ (State.reset.tim.writeCh 0x12#8 = State.reset.tim.writeCh 0x12#8 ∨
      State.reset.tim.writeCh 0x12#8 = State.reset.tim.writeCl 0x34#8) ∧ State.reset.tim.ocr = 0xFFFF#16 := by
  decide +kernel

/-- A rising edge with IEDG set, a falling edge with it clear, and a level that is no edge; a line at each level. -/
theorem witness_LineChangesAndCapture :
    let s := { State.reset with tim := { State.reset.tim with tcsr := 0x02#8 } }
    s.cfg.hasTimer = true ∧ (if s.tim.tcsr.getLsbD 1 then !s.tim.tinLine && true else s.tim.tinLine && !true) = true ∧
      (if s.tim.tcsr.getLsbD 1 then !s.tim.tinLine && false else s.tim.tinLine && !false) = false ∧ s.irqLine = false ∧
      (let t := { s.setLine .irq true with cc := { s.cc with i := false } }
       t.irqLine = true ∧ t.cc.i = false ∧ t.rstPend = false ∧ t.nmiPend = false) ∧
      (let t := { State.reset with tim := { State.reset.tim with tinLine := true } }
       (if t.tim.tcsr.getLsbD 1 then !t.tim.tinLine && false else t.tim.tinLine && !false) = true ∧
         (if t.tim.tcsr.getLsbD 1 then !t.tim.tinLine && true else t.tim.tinLine && !true) = false) ∧
      s.nmiLine = false ∧ (s.setLine .nmi true).nmiLine = true := by
  decide +kernel

theorem witness_SerialAdvanceMakesTicks :
    Config.reference.wf = true ∧ State.reset.sci.externalClock = false ∧
      Sci.externalClock { State.reset.sci with rmcr := 0b1100#4 } = true ∧ Config.reference.loopback = false := by
  decide +kernel

/-- A UART with these control bits, otherwise as reset leaves it. -/
def uart (trcsr : Byte) : Sci := { State.reset.sci with trcsr := trcsr }

theorem witness_TransmitterSendsTheFrame :
    (uart 0x02#8).te = true ∧ (uart 0x02#8).txst = .idle ∧ (uart 0x02#8).tdre = false ∧ (uart 0x00#8).te = false ∧
      (uart 0x22#8).te = true ∧ (uart 0x22#8).tdre = true ∧ ((uart 0x02#8).txTick).txst = .data 0 ∧
      Sci.txst { uart 0x02#8 with txst := .stop } = .stop := by decide

/-- With the receive flag clear, and with it set. -/
theorem witness_ReceiverTakesTheFrame :
    (uart 0x04#8).re = true ∧ (uart 0x04#8).wu = false ∧ (uart 0x04#8).rxst = .idle ∧ (uart 0x04#8).rxprev = true ∧
      (uart 0x04#8).rdrf = false ∧ (uart 0x84#8).re = true ∧ (uart 0x84#8).wu = false ∧ (uart 0x84#8).rdrf = true := by
  decide

theorem witness_SerialLoopbackReturnsEveryByte :
    ({ Config.reference with loopback := true } : Config).loopback = true ∧ (uart 0x26#8).te = true ∧
      (uart 0x26#8).re = true ∧ (uart 0x26#8).wu = false ∧ (uart 0x26#8).txst = .idle ∧ (uart 0x26#8).rxst = .idle ∧
      (uart 0x26#8).rxprev = true ∧ (uart 0x26#8).rdrf = false ∧ (uart 0x26#8).orfe = false := by
  decide

/-- In wake-up mode with the receiver on and the count at 0, and with it off; nine samples are fewer than ten. -/
theorem witness_WakeUpNeedsTenHighSamples :
    (uart 0x05#8).wu = true ∧ (uart 0x05#8).re = true ∧ (uart 0x05#8).wucnt = 0 ∧ 9 < 10 ∧ (uart 0x01#8).wu = true ∧
      (uart 0x01#8).re = false := by
  decide

end Sys2Proof.Tests
end

/-!
Proofs of the family 10_state: the configuration and the stack primitives.

The configuration is fixed (spec/10_state.md R31): each shared meaning of an instruction, the fetch, each phase of a step
and each host operation leaves `cfg` as it was, and a run inherits it from its steps by induction on the fuel.
-/

namespace Sys2Proof.Machine

open Sys2Proof.Claims Sys2Proof.Laws

/-! Interrupt and trap entry, the return, the reset. -/

@[simp] theorem State.jumpVector_cfg (s : State) (vec : Word) : (s.jumpVector vec).cfg = s.cfg := by
  simp [State.jumpVector]

@[simp] theorem State.interruptEntry_cfg (s : State) (vec : Word) : (s.interruptEntry vec).cfg = s.cfg := by
  simp [State.interruptEntry]

@[simp] theorem State.returnFromInterrupt_cfg (s : State) : s.returnFromInterrupt.cfg = s.cfg := by
  simp [State.returnFromInterrupt]

@[simp] theorem State.illegalSlot_cfg (s : State) : s.illegalSlot.cfg = s.cfg := by
  unfold State.illegalSlot
  split
  · rfl
  · exact s.interruptEntry_cfg _

@[simp] theorem State.takeInterrupt_cfg (s : State) (src : Source) : (s.takeInterrupt src).cfg = s.cfg := by
  cases src <;> simp [State.takeInterrupt]

@[simp] theorem State.resetSequence_cfg (s : State) : s.resetSequence.cfg = s.cfg := by
  simp [State.resetSequence, State.resetRegisters]

/-! The shared meanings of the instructions. -/

@[simp] theorem State.operand8_cfg (s : State) (src : Src 8) : (s.operand8 src).2.cfg = s.cfg := by
  cases src with
  | imm v => rfl
  | mem m => exact s.read8_cfg _

@[simp] theorem State.operand16_cfg (s : State) (src : Src 16) : (s.operand16 src).2.cfg = s.cfg := by
  cases src with
  | imm v => rfl
  | mem m => exact s.read16_cfg _

@[simp] theorem State.addAcc_cfg (s : State) (r : Acc) (cin : Bool) (src : Src 8) : (s.addAcc r cin src).cfg = s.cfg := by
  simp [State.addAcc]

@[simp] theorem State.subAcc_cfg (s : State) (r : Acc) (bin : Bool) (src : Src 8) : (s.subAcc r bin src).cfg = s.cfg := by
  simp [State.subAcc]

@[simp] theorem State.cmpAcc_cfg (s : State) (r : Acc) (src : Src 8) : (s.cmpAcc r src).cfg = s.cfg := by
  simp [State.cmpAcc]

@[simp] theorem State.addD_cfg (s : State) (src : Src 16) : (s.addD src).cfg = s.cfg := by simp [State.addD]

@[simp] theorem State.subD_cfg (s : State) (src : Src 16) : (s.subD src).cfg = s.cfg := by simp [State.subD]

@[simp] theorem State.incAcc_cfg (s : State) (r : Acc) : (s.incAcc r).cfg = s.cfg := by simp [State.incAcc]

@[simp] theorem State.decAcc_cfg (s : State) (r : Acc) : (s.decAcc r).cfg = s.cfg := by simp [State.decAcc]

@[simp] theorem State.loadAcc_cfg (s : State) (r : Acc) (src : Src 8) : (s.loadAcc r src).cfg = s.cfg := by
  simp [State.loadAcc]

@[simp] theorem State.storeAcc_cfg (s : State) (r : Acc) (m : Mem) : (s.storeAcc r m).cfg = s.cfg := by
  simp [State.storeAcc]

@[simp] theorem State.loadD_cfg (s : State) (src : Src 16) : (s.loadD src).cfg = s.cfg := by simp [State.loadD]

@[simp] theorem State.loadX_cfg (s : State) (src : Src 16) : (s.loadX src).cfg = s.cfg := by simp [State.loadX]

@[simp] theorem State.loadSp_cfg (s : State) (src : Src 16) : (s.loadSp src).cfg = s.cfg := by simp [State.loadSp]

@[simp] theorem State.storeD_cfg (s : State) (m : Mem) : (s.storeD m).cfg = s.cfg := by simp [State.storeD]

@[simp] theorem State.storeX_cfg (s : State) (m : Mem) : (s.storeX m).cfg = s.cfg := by simp [State.storeX]

@[simp] theorem State.shiftAcc_cfg (s : State) (k : ShiftKind) (r : Acc) : (s.shiftAcc k r).cfg = s.cfg := by
  simp [State.shiftAcc]

@[simp] theorem State.shiftMem_cfg (s : State) (k : ShiftKind) (m : Mem) : (s.shiftMem k m).cfg = s.cfg := by
  simp [State.shiftMem]

@[simp] theorem State.updateMem_cfg (s : State) (m : Mem) (f : Byte → Byte) : (s.updateMem m f).cfg = s.cfg := by
  simp [State.updateMem]

@[simp] theorem State.testMem_cfg (s : State) (m : Mem) (f : Byte → Byte) : (s.testMem m f).cfg = s.cfg := by
  simp [State.testMem]

@[simp] theorem State.branch_cfg (s : State) (k : Cond) (rr : Byte) : (s.branch k rr).cfg = s.cfg := by
  unfold State.branch
  split <;> rfl

@[simp] theorem State.call_cfg (s : State) (target : Word) : (s.call target).cfg = s.cfg := by simp [State.call]

@[simp] theorem State.returnFromCall_cfg (s : State) : s.returnFromCall.cfg = s.cfg := by simp [State.returnFromCall]

/-! Every instruction. -/

/-- The instruction's meaning leaves the configuration as it was. -/
def KeepsCfg (i : Instr) : Prop := ∀ s t : State, exec i s = .next t → t.cfg = s.cfg

/-- It is enough that the meaning is a function on states that keeps the configuration. -/
theorem KeepsCfg.of_exec {i : Instr} {f : State → State} (hexec : ∀ s, exec i s = .next (f s))
    (hcfg : ∀ s, (f s).cfg = s.cfg) : KeepsCfg i := by
  intro s t h
  obtain rfl : f s = t := Host.Outcome.next.inj ((hexec s).symm.trans h)
  exact hcfg s

/-- No instruction changes the configuration (R31), by the shapes of the instructions. -/
theorem keepsCfg : ∀ i, KeepsCfg i :=
  instr_cases
    (add := fun r src => .of_exec (exec_add r src) (·.addAcc_cfg r false src))
    (adc := fun r src => .of_exec (exec_adc r src) fun s => s.addAcc_cfg r s.cc.c src)
    (sub := fun r src => .of_exec (exec_sub r src) (·.subAcc_cfg r false src))
    (sbc := fun r src => .of_exec (exec_sbc r src) fun s => s.subAcc_cfg r s.cc.c src)
    (cmp := fun r src => .of_exec (exec_cmp r src) (·.cmpAcc_cfg r src))
    (lda := fun r src => .of_exec (exec_lda r src) (·.loadAcc_cfg r src))
    (addD := fun src => .of_exec (exec_addD src) (·.addD_cfg src))
    (subD := fun src => .of_exec (exec_subD src) (·.subD_cfg src))
    (ldd := fun src => .of_exec (exec_ldd src) (·.loadD_cfg src))
    (ldx := fun src => .of_exec (exec_ldx src) (·.loadX_cfg src))
    (lds := fun src => .of_exec (exec_lds src) (·.loadSp_cfg src))
    (sta := fun r m => .of_exec (exec_sta r m) (·.storeAcc_cfg r m))
    (std := fun m => .of_exec (exec_std m) (·.storeD_cfg m))
    (stx := fun m => .of_exec (exec_stx m) (·.storeX_cfg m))
    (jsr := fun m => .of_exec (exec_jsr m) fun s => s.call_cfg (m.ea s))
    (jmp := fun m _ h => .of_exec (exec_jmp · h) fun s => s.setPc_cfg (m.ea s))
    (shiftAcc := fun k r => .of_exec (exec_shiftAcc k r) (·.shiftAcc_cfg k r))
    (shiftMem := fun k m _ h => .of_exec (exec_shiftMem · h) (·.shiftMem_cfg k m))
    (maskMem := fun _ _ _ _ h => .of_exec (exec_maskMem · h) fun s => by split <;> simp)
    (branch := fun k rr => .of_exec (exec_branch k rr) (·.branch_cfg k rr))
    (illegal := fun _ h => .of_exec (exec_illegal · h) State.illegalSlot_cfg)
    (daa := .of_exec exec_daa fun _ => rfl)
    (mul := .of_exec exec_mul fun _ => rfl)
    (inca := .of_exec exec_inca (·.incAcc_cfg .A))
    (incb := .of_exec exec_incb (·.incAcc_cfg .B))
    (deca := .of_exec exec_deca (·.decAcc_cfg .A))
    (decb := .of_exec exec_decb (·.decAcc_cfg .B))
    (inx := .of_exec exec_inx fun _ => rfl)
    (dex := .of_exec exec_dex fun _ => rfl)
    (asld := .of_exec exec_asld fun _ => rfl)
    (lsrd := .of_exec exec_lsrd fun _ => rfl)
    (bsr := fun rr => .of_exec (exec_bsr rr) fun s => s.call_cfg (s.relTarget rr))
    (rts := .of_exec exec_rts State.returnFromCall_cfg)
    (rti := .of_exec exec_rti State.returnFromInterrupt_cfg)
    (wai := .of_exec exec_wai fun _ => rfl)
    (slp := .of_exec exec_slp fun _ => rfl)
    (nop := .of_exec exec_nop fun _ => rfl)
    (tap := .of_exec exec_tap fun _ => rfl)
    (tpa := .of_exec exec_tpa fun _ => rfl)
    (clv := .of_exec exec_clv fun _ => rfl)
    (sev := .of_exec exec_sev fun _ => rfl)
    (clc := .of_exec exec_clc fun _ => rfl)
    (sec := .of_exec exec_sec fun _ => rfl)
    (cli := .of_exec exec_cli fun _ => rfl)
    (sei := .of_exec exec_sei fun _ => rfl)

/-! The fetch and the step. -/

/-- What a fetch of one byte does when it is not refused (R92). -/
theorem State.fetch8_ok {s : State} {p : Byte × State} (h : s.fetch8 = .ok p) :
    windowReg s.cfg s.pc = none ∧ p = (s.extRead s.pc, (s.extReadEffect s.pc).setPc (s.pc + 1#16)) := by
  unfold State.fetch8 at h
  split at h
  · cases h
  next hw => exact ⟨hw, (Except.ok.inj h).symm⟩

theorem State.fetch8_cfg {s : State} {p : Byte × State} (h : s.fetch8 = .ok p) : p.2.cfg = s.cfg := by
  obtain ⟨-, rfl⟩ := State.fetch8_ok h
  simp

theorem State.fetchMany_cfg {n : Nat} {s : State} {p : List Byte × State} (h : s.fetchMany n = .ok p) :
    p.2.cfg = s.cfg := by
  fun_induction State.fetchMany s n generalizing p with
  | case1 => cases h; rfl
  | case4 s n b hb bs hbs ih => cases h; exact (ih hbs).trans (State.fetch8_cfg hb)
  | case2 | case3 => cases h

theorem State.fetch_cfg {s : State} {f : Byte × Instr × State} (h : s.fetch = .ok f) : f.2.2.cfg = s.cfg := by
  unfold State.fetch at h
  split at h
  · cases h
  next op hop =>
    split at h
    · cases h
    next operands hoperands =>
      split at h
      · cases h
      · obtain rfl := Except.ok.inj h
        exact (State.fetchMany_cfg hoperands).trans (State.fetch8_cfg hop)

/-- What the instruction of a step leads to when it answers a next state (R123 to R127). -/
theorem State.runInstruction_next {s t : State} (h : s.runInstruction = .next t) :
    ∃ op i u v, s.fetch = .ok (op, i, u) ∧ exec i u = .next v ∧ t = v.account (slotCost s.cfg op) := by
  unfold State.runInstruction at h
  split at h
  · cases h
  next f hf =>
    split at h
    next v hv => exact ⟨f.1, f.2.1, f.2.2, v, hf, hv, (Host.Outcome.next.inj h).symm⟩
    · cases h
    · cases h

theorem State.runInstruction_cfg {s t : State} (h : s.runInstruction = .next t) : t.cfg = s.cfg := by
  obtain ⟨op, i, u, v, hfetch, hexec, rfl⟩ := State.runInstruction_next h
  calc (v.account (slotCost s.cfg op)).cfg = v.cfg := v.account_cfg _
    _ = u.cfg := keepsCfg i u v hexec
    _ = s.cfg := State.fetch_cfg hfetch

/-- What a step that answers a next state did (R121): it took the reset latch or an interrupt, waited a cycle, or ran an
instruction. -/
theorem step_next {s t : State} (h : step s = .next t) :
    (s.poll = some .reset ∧ t = s.resetSequence.account 0) ∨
    (∃ src, src ≠ .reset ∧ s.poll = some src ∧ t = (s.takeInterrupt src).account s.cfg.cInt) ∨
    (s.poll = none ∧ s.mode ≠ .run ∧ t = s.account 1) ∨
    (s.poll = none ∧ s.mode = .run ∧ s.runInstruction = .next t) := by
  unfold step at h
  split at h
  · unfold State.dispatchStep at h
    split at h
    next hp => exact .inl ⟨hp, (Host.Outcome.next.inj h).symm⟩
    next src hne hp => exact .inr (.inl ⟨src, hne, hp, (Host.Outcome.next.inj h).symm⟩)
    next hp =>
      cases hm : s.mode with
      | run => exact .inr (.inr (.inr ⟨hp, rfl, by simpa [hm] using h⟩))
      | waitWai | waitSlp =>
        simp only [hm] at h
        exact .inr (.inr (.inl ⟨hp, nofun, (Host.Outcome.next.inj h).symm⟩))
  · cases h

theorem step_cfg {s t : State} (h : step s = .next t) : t.cfg = s.cfg := by
  obtain ⟨-, rfl⟩ | ⟨src, -, -, rfl⟩ | ⟨-, -, rfl⟩ | ⟨-, -, hrun⟩ := step_next h
  · simp
  · simp
  · simp
  · exact State.runInstruction_cfg hrun

/-! The host operations. -/

theorem State.setTin_cfg (s : State) (l : Bool) : (s.setTin l).cfg = s.cfg := by
  unfold State.setTin
  split <;> rfl

theorem State.setLine_cfg (s : State) (line : Line) (l : Bool) : (s.setLine line l).cfg = s.cfg := by
  cases line with
  | tin => exact s.setTin_cfg l
  | reset | nmi | irq | rxd => rfl

theorem State.serialClock_cfg (s : State) : s.serialClock.cfg = s.cfg := by
  unfold State.serialClock
  split <;> rfl

/-- A run that ends without a stop, by the recursion of its loop. -/
theorem runLoop_cfg {fuel : Nat} {s t : State} (h : runLoop fuel s = some (.next t)) : t.cfg = s.cfg := by
  fun_induction runLoop fuel s with
  | case1 => cases h; rfl
  | case3 s _ fuel u hstep ih => exact (ih h).trans (step_cfg hstep)
  | case2 | case4 | case5 => cases h

/-- Settles O22: the shapes of the instructions, the cases of a step, and the induction of a run. -/
theorem configurationNeverChanges : Obligations.ConfigurationNeverChanges := by
  refine ⟨fun _ _ => step_cfg, keepsCfg, fun s => ⟨s.setLine_cfg, s.resetSequence_cfg, s.serialClock_cfg, ?_⟩⟩
  intro n t h
  exact (runLoop_cfg h : t.cfg = (s.grant n).cfg)

/-! The stack (R27). -/

/-- What a push of a word does: its low byte at `SP`, its high byte below, and `SP` two lower. -/
theorem State.push16_eq (s : State) (v : Word) :
    s.push16 v = (writeDown s s.sp [loByte v, hiByte v]).setSp (s.sp - 2#16) := by
  simp only [State.push16, State.push8_eq, State.write8_setSp, State.setSp_sp, State.setSp_setSp, BitVec.sub_sub, writeDown]
  rfl

/-- What a pull of a word does: its high byte from above `SP`, then its low byte, and `SP` two higher. -/
theorem State.pull16_eq (s : State) :
    s.pull16 = (joinBytes ((readUp s (s.sp + 1#16) 2).1.getD 0 0#8) ((readUp s (s.sp + 1#16) 2).1.getD 1 0#8),
      (readUp s (s.sp + 1#16) 2).2.setSp (s.sp + 2#16)) := by
  simp only [State.pull16, State.pull8_eq, State.readEffect_setSp, State.peek_setSp, State.setSp_sp, State.setSp_setSp,
    BitVec.add_assoc, readUp]
  rfl

/-- Settles O48: one law for each of the four primitives. -/
theorem stackPrimitives : Obligations.StackPrimitives := fun s =>
  ⟨s.push8_eq, s.pull8_eq, s.push16_eq, s.pull16_eq⟩

end Sys2Proof.Machine

/-!
Proofs of the family 20_memory: the register window.

An instruction byte is not fetched from a claimed register (spec/20_memory.md R79): the fetch of several bytes stops at the
first one that lies at such a register, by induction on the bytes before it. The registers (R66): each has one offset, and
what an access to a claimed address does is what the window does for its register, so the table of R66 is a matter of the
window's three functions.
-/

namespace Sys2Proof.Machine

open Sys2Proof.Claims

/-! The fetch of an instruction byte (R79, R92). -/

/-- `Fetch8` at a claimed register (R79). -/
theorem State.fetch8_claimed {s : State} (h : (windowReg s.cfg s.pc).isSome = true) :
    s.fetch8 = .error (.fetchFromWindow s.pc) := by
  obtain ⟨r, hr⟩ := Option.isSome_iff_exists.mp h
  simp [State.fetch8, hr]

theorem word_add_one_add_ofNat (a : Word) (k : Nat) : a + 1#16 + BitVec.ofNat 16 k = a + BitVec.ofNat 16 (k + 1) := by
  rw [BitVec.add_assoc, BitVec.add_comm 1#16, ← BitVec.ofNat_add]

/-- The fetch of `n` bytes of which byte `k` is the first at a claimed register (R79), by induction on the bytes before. -/
theorem State.fetchMany_claimed {s : State} {k n : Nat} (hkn : k < n) (hbefore : Unclaimed s.cfg s.pc k)
    (hclaimed : (windowReg s.cfg (s.pc + BitVec.ofNat 16 k)).isSome = true) :
    s.fetchMany n = .error (.fetchFromWindow (s.pc + BitVec.ofNat 16 k)) := by
  obtain ⟨m, rfl⟩ := Nat.exists_eq_add_one_of_ne_zero (Nat.ne_zero_of_lt hkn)
  induction k generalizing s m with
  | zero =>
    rw [BitVec.add_zero] at hclaimed ⊢
    simp [State.fetchMany, State.fetch8_claimed hclaimed]
  | succ k ih =>
    obtain ⟨n, rfl⟩ : ∃ n, m = n + 1 := Nat.exists_eq_add_one_of_ne_zero (by omega)
    have hpc : windowReg s.cfg s.pc = none := by simpa using hbefore 0 k.succ_pos
    have htail := ih (s := (s.read8 s.pc).2.setPc (s.pc + 1#16)) (m := n)
    simp only [Unclaimed, State.setPc_pc, State.setPc_cfg, State.read8_cfg, word_add_one_add_ofNat] at htail
    rw [State.fetchMany, State.fetch8_unclaimed hpc]
    simp only [htail (fun j hj => hbefore (j + 1) (Nat.succ_lt_succ hj)) hclaimed (Nat.lt_of_succ_lt_succ hkn)]

/-- The fetch of an instruction fails where the fetch of as many bytes as its opcode byte gives it does (R79, R90). -/
theorem State.fetch_of_fetchMany_error {s : State} {b : Byte × State} {e : Refusal} (hb : s.fetch8 = .ok b)
    (hlen : 0 < slotLength s.cfg b.1) (h : s.fetchMany (slotLength s.cfg b.1) = .error e) : s.fetch = .error e := by
  obtain ⟨m, hm⟩ := Nat.exists_eq_add_one_of_ne_zero hlen.ne'
  simp only [hm, State.fetchMany, hb] at h
  split at h
  next hoperands => simp [State.fetch, hb, hm, hoperands, Except.error.inj h]
  next => cases h

/-- Settles O8: the opcode byte, the first operand byte at a claimed register, the ordinary fetch, and the step. -/
theorem windowFetchIsRefused : Obligations.WindowFetchIsRefused := by
  refine fun s => ⟨fun hpc => ?_, fun k hpos hlen hbefore hclaimed => ?_, fun hpc => ?_,
    fun hwf hpoll hmode e he => ?_⟩
  · simp [State.fetch, State.fetch8_claimed hpc]
  · have hpc : windowReg s.cfg s.pc = none := by simpa using hbefore 0 hpos
    have hopcode := State.fetch8_unclaimed hpc
    rw [State.read8_unclaimed hpc] at hopcode
    exact State.fetch_of_fetchMany_error hopcode (Nat.zero_lt_of_lt hlen) (State.fetchMany_claimed hlen hbefore hclaimed)
  · rw [State.fetch8_unclaimed hpc, State.read8_unclaimed hpc]
  · rw [step_eq_runInstruction hwf hpoll hmode, State.runInstruction, he]

/-! Which addresses are claimed (R65, R66). -/

/-- The offset of a register in the window (R66). -/
def WindowReg.offset : WindowReg → Nat
  | .tcsr => 0x08
  | .ch => 0x09
  | .cl => 0x0A
  | .ocrh => 0x0B
  | .ocrl => 0x0C
  | .icrh => 0x0D
  | .icrl => 0x0E
  | .rmcr => 0x10
  | .trcsr => 0x11
  | .rdr => 0x12
  | .tdr => 0x13

theorem registerAt_offset (r : WindowReg) : registerAt (BitVec.ofNat 16 r.offset) = some r := by
  cases r <;> rfl

theorem registerAt_eq_some {off : Word} {r : WindowReg} (h : registerAt off = some r) : off.toNat = r.offset := by
  unfold registerAt at h
  split at h <;> cases h <;> assumption

theorem windowReg_windowAddr (s : State) (r : WindowReg) :
    windowReg s.cfg (windowAddr s r.offset) = if r.present s.cfg then some r else none := by
  rw [windowReg, windowAddr, BitVec.add_comm, BitVec.add_sub_cancel, registerAt_offset, Option.filter_some]

theorem windowReg_isSome_offset {c : Config} {addr : Word} (h : (windowReg c addr).isSome = true) :
    ∃ r : WindowReg, (addr - c.ioBase).toNat = r.offset := by
  obtain ⟨r, hr⟩ := Option.isSome_iff_exists.mp h
  exact ⟨r, registerAt_eq_some (Option.filter_eq_some_iff.mp hr).1⟩

/-! What an access to a register does (R62, R66). -/

/-- A register of a unit that the configuration has (R66). -/
theorem registerIs_of_present {s : State} {r : WindowReg} (h : r.present s.cfg = true) :
    RegisterIs s r.offset (s.windowValue r) (s.windowReadEffect r) (s.windowWrite r) := by
  have hr : windowReg s.cfg (windowAddr s r.offset) = some r := by rw [windowReg_windowAddr, if_pos h]
  simp [RegisterIs, State.read8, State.peek, State.readEffect, State.write8, hr]

/-- A register of a unit that the configuration has not (R317, R362). -/
theorem goesToEnvironment_of_absent {s : State} {r : WindowReg} (h : r.present s.cfg = false) :
    GoesToEnvironment s (windowAddr s r.offset) := by
  have hr : windowReg s.cfg (windowAddr s r.offset) = none := by simp [windowReg_windowAddr, h]
  exact ⟨hr, State.read8_unclaimed hr, fun v => by simp [State.write8, hr]⟩

/-- A write of `TRCSR` puts the byte's own bits in the places below the flags (R333). -/
theorem getLsbD_trcsr_written (old v : Byte) {i : Nat} (h : i < 5) :
    ((old &&& trcsrFlags) ||| (v &&& trcsrWritable)).getLsbD i = v.getLsbD i := by
  have hmasks : ∀ i < 5, trcsrFlags.getLsbD i = false ∧ trcsrWritable.getLsbD i = true := by decide
  simp [hmasks i h]

/-- What a write of `TRCSR` does, in terms of the byte written (R333). -/
theorem Sci.writeTrcsr_eq_trcsrWritten (u : Sci) (v : Byte) : u.writeTrcsr v = trcsrWritten u v := by
  simp only [Sci.writeTrcsr_eq, getLsbD_trcsr_written, Nat.reduceLT]
  rfl

/-! The table of R66, and the units that are absent. -/

/-- With both units present each of the eleven registers answers at its offset (R66). -/
theorem registerIs_of_units {s : State} (hT : s.cfg.hasTimer = true) (hS : s.cfg.hasSci = true) (r : WindowReg) :
    RegisterIs s r.offset (s.windowValue r) (s.windowReadEffect r) (s.windowWrite r) :=
  registerIs_of_present (by simp [WindowReg.present, hT, hS])

/-- `CL` with `CL_FALLTHROUGH` (R303): a read acts as a read of `OCRH`. -/
theorem registerIs_cl_fallthrough {s : State} (hT : s.cfg.hasTimer = true) (hcl : s.cfg.clFallthrough = true) :
    RegisterIs s 0x0A (hiByte s.tim.ocr) { s with tim := clearedIfArmed s.tim .ocf }
      (fun v => { s with tim := { s.tim with cnt := joinBytes s.tim.chlatch v } }) := by
  have h := registerIs_of_present (s := s) (r := .cl) hT
  simp only [State.windowValue, State.windowReadEffect, hcl, if_true] at h
  exact h

/-- `CL` without `CL_FALLTHROUGH` (R303): a read returns the counter's low byte and changes nothing. -/
theorem registerIs_cl_counter {s : State} (hT : s.cfg.hasTimer = true) (hcl : s.cfg.clFallthrough = false) :
    RegisterIs s 0x0A (loByte s.tim.cnt) s
      (fun v => { s with tim := { s.tim with cnt := joinBytes s.tim.chlatch v } }) := by
  have h := registerIs_of_present (s := s) (r := .cl) hT
  simp only [State.windowValue, State.windowReadEffect, hcl, Bool.false_eq_true, if_false] at h
  exact h

/-- `TRCSR`: a read returns it and changes nothing, a write is that of R333. -/
theorem registerIs_trcsr {s : State} (hS : s.cfg.hasSci = true) :
    RegisterIs s 0x11 s.sci.trcsr s (fun v => { s with sci := trcsrWritten s.sci v }) := by
  have h := registerIs_of_present (s := s) (r := .trcsr) hS
  have hwrite : s.windowWrite .trcsr = fun v => { s with sci := trcsrWritten s.sci v } :=
    funext fun v => by rw [State.windowWrite, Sci.writeTrcsr_eq_trcsrWritten]
  rwa [hwrite] at h

theorem goesToEnvironment_of_all_absent {s : State} {rs : List WindowReg} (h : ∀ r ∈ rs, r.present s.cfg = false) :
    ∀ off ∈ rs.map WindowReg.offset, GoesToEnvironment s (windowAddr s off) :=
  List.forall_mem_map.mpr fun r hr => goesToEnvironment_of_absent (h r hr)

/-- The timer's registers on a variant without it (R317). -/
theorem timerRegisters_absent {s : State} (h : s.cfg.hasTimer = false) :
    ∀ off ∈ [0x08, 0x09, 0x0A, 0x0B, 0x0C, 0x0D, 0x0E], GoesToEnvironment s (windowAddr s off) :=
  goesToEnvironment_of_all_absent (rs := [.tcsr, .ch, .cl, .ocrh, .ocrl, .icrh, .icrl])
    (by simp [WindowReg.present, WindowReg.ofTimer, h])

/-- The UART's registers on a variant without it (R362). -/
theorem serialRegisters_absent {s : State} (h : s.cfg.hasSci = false) :
    ∀ off ∈ [0x10, 0x11, 0x12, 0x13], GoesToEnvironment s (windowAddr s off) :=
  goesToEnvironment_of_all_absent (rs := [.rmcr, .trcsr, .rdr, .tdr])
    (by simp [WindowReg.present, WindowReg.ofTimer, h])

/-- An absent timer requests nothing (R317). -/
theorem requests_of_timer_absent {s : State} (h : s.cfg.hasTimer = false) {src : Source}
    (hsrc : src = .icf ∨ src = .ocf ∨ src = .tof) : s.requests src = false := by
  obtain rfl | rfl | rfl := hsrc <;> simp [State.requests, h]

/-- Settles O50: the rows of R66 one by one, each what the window's three functions say of its register, then the
absent timer, the absent UART and the offsets that are claimed. -/
theorem windowRegisters : Obligations.WindowRegisters := by
  refine ⟨fun s hT hS => ?_, fun s hT => ?_, fun s hS => ?_, fun c addr h => ?_⟩
  · have row := registerIs_of_units hT hS
    exact ⟨row .tcsr, row .ch, registerIs_cl_fallthrough hT, registerIs_cl_counter hT, row .ocrh, row .ocrl, row .icrh,
      row .icrl, row .rmcr, registerIs_trcsr hS, row .rdr, row .tdr⟩
  · exact ⟨timerRegisters_absent hT, fun n => by simp [State.timerAdvance, hT], fun _ => requests_of_timer_absent hT⟩
  · exact ⟨serialRegisters_absent hS, fun n => by simp [State.serialAdvance, hS], by simp [State.serialClock, hS],
      by simp [State.readTxd, hS], by simp [State.requests, hS]⟩
  · obtain ⟨r, hr⟩ := windowReg_isSome_offset h
    rw [hr]
    cases r <;> decide

end Sys2Proof.Machine

/-!
Proofs of the family 30_encoding: lengths, the bytes of a fetch, operands.

A row of R97 makes, from the operand bytes that follow its opcode byte, an instruction whose encoding is that opcode byte
and those operand bytes (`Slot.Encodes`); the length of what decodes is therefore the length of the row's format (R90,
R91). A fetch that is not refused met no claimed register, so it is the fetch outside the window (R92).
-/

namespace Sys2Proof

/-! What the rows of R97 make of their operand bytes. -/

/-- Whatever the operand bytes, the instruction that a slot makes of them is written as the opcode byte and those bytes,
high byte first (R91, R93, R94, R96). -/
def Slot.Encodes (op : Byte) : Slot → Prop
  | .illegal i | .inh i => encode i = [op]
  | .imm8 f | .dir f | .idx f | .rel f => ∀ v, encode (f v) = [op, v]
  | .imm16 f | .ext f => ∀ w, encode (f w) = [op, hiByte w, loByte w]
  | .imd f | .imx f => ∀ m v, encode (f m v) = [op, m, v]

/-- Every row of R97 holds an operation that is written with the row's own opcode byte: one equation of `encode` a row. -/
theorem dispatchTable_encodes : ∀ r ∈ dispatchTable, r.slot.Encodes (BitVec.ofNat 8 r.opcode) := by
  simp only [dispatchTable, List.forall_mem_append, tableRow0, tableRow1, tableRow2, tableRow3, tableRow4, tableRow5,
    tableRow6, tableRow7, tableRow8, tableRow9, tableRowA, tableRowB, tableRowC, tableRowD, tableRowE, tableRowF,
    List.forall_mem_cons, List.not_mem_nil, false_imp_iff, implies_true, and_true, Slot.Encodes]
  and_intros <;> intros <;> rfl

theorem rowOf_encodes {op : Byte} {r : Row} (h : rowOf op = some r) : r.slot.Encodes op := by
  have hop : r.opcode = op.toNat := by simpa using List.find?_some h
  simpa [hop] using dispatchTable_encodes r (List.mem_of_find?_eq_some h)

theorem Slot.length_bounds (s : Slot) : 1 ≤ s.length ∧ s.length ≤ 3 := by
  cases s <;> simp [Slot.length]

/-- The operand bytes that a slot takes are those of the instruction's encoding, as many as the format has (R91). -/
theorem Slot.Encodes.operands_eq_some {op : Byte} {s : Slot} {bs rest : List Byte} {i : Instr} (hs : s.Encodes op)
    (h : s.operands bs = some (i, rest)) :
    ∃ operands, encode i = op :: operands ∧ bs = operands ++ rest ∧ operands.length + 1 = s.length := by
  unfold Slot.operands at h
  split at h
  case h_1 | h_2 => cases h; exact ⟨[], hs, rfl, rfl⟩
  case h_3 | h_4 | h_5 | h_6 => cases h; exact ⟨[_], hs _, rfl, rfl⟩
  case h_7 | h_8 =>
    cases h
    refine ⟨_, hs _, ?_, rfl⟩
    rw [Laws.hiByte_joinBytes, Laws.loByte_joinBytes]
    rfl
  case h_9 | h_10 => cases h; exact ⟨[_, _], hs _ _, rfl, rfl⟩
  case h_11 => cases h

/-- What decodes is the row's operation on its operand bytes. -/
theorem decode_cons_eq_ok {op : Byte} {bs : List Byte} {p : Instr × List Byte} (h : decode (op :: bs) = .ok p) :
    ∃ r, rowOf op = some r ∧ r.slot.operands bs = some p := by
  simp only [decode] at h
  split at h
  · cases h
  next r hr =>
    split at h
    · cases h
    next q hq => cases h; exact ⟨r, hr, hq⟩

/-- The length of an instruction is fixed by its opcode byte (R90): the first part of O3. -/
theorem lengthOf_of_decode {op : Byte} {bs rest : List Byte} {i : Instr} (h : decode (op :: bs) = .ok (i, rest)) :
    lengthOf op = some i.length ∧ i.opcode = op ∧ 1 ≤ i.length ∧ i.length ≤ 3 ∧
      (op :: bs).length = i.length + rest.length := by
  obtain ⟨r, hrow, hoperands⟩ := decode_cons_eq_ok h
  obtain ⟨operands, hencode, rfl, hlength⟩ := (rowOf_encodes hrow).operands_eq_some hoperands
  have hi : i.length = r.slot.length := by rw [Instr.length, hencode, List.length_cons, hlength]
  obtain ⟨hpos, hle⟩ := r.slot.length_bounds
  refine ⟨by simp [lengthOf, hrow, hi], by simp [Instr.opcode, hencode], hi ▸ hpos, hi ▸ hle, ?_⟩
  rw [List.length_cons, List.length_append]
  omega

theorem lengthOf_pos {op : Byte} {n : Nat} (h : lengthOf op = some n) : 0 < n := by
  obtain ⟨r, -, rfl⟩ := Option.map_eq_some_iff.mp h
  exact r.slot.length_bounds.1

end Sys2Proof

namespace Sys2Proof.Machine

open Sys2Proof.Claims

/-! The bytes of a fetch (R90, R92). -/

/-- A fetch that is not refused met no claimed register: the first one would have refused it (R79). -/
theorem State.unclaimed_of_fetchMany_ok {s : State} {n : Nat} {p : List Byte × State} (h : s.fetchMany n = .ok p) :
    Unclaimed s.cfg s.pc n := by
  intro k
  induction k using Nat.strong_induction_on with
  | h k before =>
    intro hk
    by_contra hclaimed
    have hrefused := State.fetchMany_claimed hk (fun j hj => before j hj (hj.trans hk))
      (Option.isSome_iff_ne_none.mpr hclaimed)
    cases h.symm.trans hrefused

/-- What a fetch of `n` bytes takes and leaves when it is not refused. -/
theorem State.fetchMany_ok {s : State} {n : Nat} {p : List Byte × State} (h : s.fetchMany n = .ok p) :
    p = ((readUp s s.pc n).1, (readUp s s.pc n).2.setPc (s.pc + BitVec.ofNat 16 n)) :=
  Except.ok.inj (h.symm.trans (State.fetchMany_unclaimed n s (State.unclaimed_of_fetchMany_ok h)))

/-- Settles O3: the rows of R97 for what decodes, the fetch outside the window for the bytes taken. -/
theorem opcodeByteGivesLength : Obligations.OpcodeByteGivesLength :=
  ⟨fun _ _ _ _ h => lengthOf_of_decode h, fun _ _ _ _ h => Prod.ext_iff.mp (State.fetchMany_ok h)⟩

theorem slotLength_pos (c : Config) (op : Byte) : 0 < slotLength c op := by
  unfold slotLength
  split
  next slot _ _ =>
    cases h : lengthOf slot with
    | none => decide
    | some n => exact lengthOf_pos h
  · decide
  · decide

/-- The fetch of an instruction is the fetch of as many bytes as its opcode byte gives it (R90, R92). -/
theorem State.fetchMany_of_fetch_ok {s t : State} {op : Byte} {i : Instr} (h : s.fetch = .ok (op, i, t)) :
    ∃ operands, s.fetchMany (slotLength s.cfg op) = .ok (op :: operands, t) ∧ dispatch s.cfg op operands = some i := by
  unfold State.fetch at h
  split at h
  · cases h
  next b hb =>
    split at h
    · cases h
    next operands hoperands =>
      split at h
      · cases h
      next j hj =>
        cases h
        obtain ⟨m, hm⟩ := Nat.exists_eq_add_one_of_ne_zero (slotLength_pos s.cfg b.1).ne'
        rw [hm, Nat.add_sub_cancel] at hoperands
        exact ⟨operands.1, by simp [hm, State.fetchMany, hb, hoperands], hj⟩

/-! Effective addresses (R94). -/

theorem Mem.ea_dir_toNat (s : State) (dd : Byte) : (Mem.ea (.dir dd) s).toNat = dd.toNat :=
  BitVec.toNat_setWidth_of_le (by decide)

theorem Mem.ea_idx_toNat (s : State) (ff : Byte) :
    (Mem.ea (.idx ff) s).toNat = (s.x.toNat + ff.toNat) % 65536 := by
  have hff : (zext16 ff).toNat = ff.toNat := BitVec.toNat_setWidth_of_le (by decide)
  rw [Mem.ea, BitVec.toNat_add, hff]

/-- Settles O27: the definitions of the operand reads and of the table's rows, the two addresses that are sums or
extensions, and the bytes of a fetch. -/
theorem operandForms : Obligations.OperandForms := by
  refine fun s => ⟨fun _ => rfl, fun _ => rfl, Mem.ea_dir_toNat s, Mem.ea_idx_toNat s, fun _ => rfl, fun _ => rfl,
    fun _ => rfl, fun _ => rfl, fun _ _ => ⟨rfl, rfl⟩, fun op i t h => ?_⟩
  obtain ⟨operands, hfetch, -⟩ := State.fetchMany_of_fetch_ok h
  exact (Prod.ext_iff.mp (State.fetchMany_ok hfetch)).2

end Sys2Proof.Machine

/-!
Proofs of the family 40_dispatch_fsm: forward progress and waiting.

Forward progress (spec/40_dispatch_fsm.md R140) rests on two facts. Neither an instruction nor the pushes and the jump of
an entry touch the latches and the cycle counters, which `State.ledger` gathers: a step clears a latch only where it takes
the source, and moves a counter only in ACCOUNT. And in a configuration that constructs, every cost that a step can charge
is positive, but for the line reset's.
-/

namespace Sys2Proof.Machine

open Sys2Proof.Claims Sys2Proof.Laws

/-! The ledger: what an instruction leaves to the FSM and to the host. -/

/-- The latches and the levels of the input lines (R28), and the cycle counters (R30). -/
structure Ledger where
  nmiPend : Bool
  rstPend : Bool
  irqLine : Bool
  nmiLine : Bool
  resetLine : Bool
  tinLine : Bool
  rxdLine : Bool
  icount : Int
  total : Nat

def State.ledger (s : State) : Ledger where
  nmiPend := s.nmiPend
  rstPend := s.rstPend
  irqLine := s.irqLine
  nmiLine := s.nmiLine
  resetLine := s.resetLine
  tinLine := s.tim.tinLine
  rxdLine := s.sci.rxdLine
  icount := s.icount
  total := s.total

/-- The items of the ledger that forward progress is about. -/
theorem State.progress_of_ledger_eq {s t : State} (h : t.ledger = s.ledger) :
    t.icount = s.icount ∧ t.total = s.total ∧ t.rstPend = s.rstPend :=
  ⟨congrArg Ledger.icount h, congrArg Ledger.total h, congrArg Ledger.rstPend h⟩

/-! The updates of registers and the accesses to memory. -/

@[simp] theorem State.setD_ledger (s : State) (v : Word) : (s.setD v).ledger = s.ledger := rfl
@[simp] theorem State.setX_ledger (s : State) (v : Word) : (s.setX v).ledger = s.ledger := rfl
@[simp] theorem State.setSp_ledger (s : State) (v : Word) : (s.setSp v).ledger = s.ledger := rfl
@[simp] theorem State.setPc_ledger (s : State) (v : Word) : (s.setPc v).ledger = s.ledger := rfl
@[simp] theorem State.setCc_ledger (s : State) (f : CC) : (s.setCc f).ledger = s.ledger := rfl
@[simp] theorem State.setMode_ledger (s : State) (m : Mode) : (s.setMode m).ledger = s.ledger := rfl
@[simp] theorem State.setAcc_ledger (s : State) (r : Acc) (v : Byte) : (s.setAcc r v).ledger = s.ledger := by
  cases r <;> rfl

@[simp] theorem State.readEffect_ledger (s : State) (addr : Word) : (s.readEffect addr).ledger = s.ledger := by
  simp [State.ledger]

@[simp] theorem State.write8_ledger (s : State) (addr : Word) (v : Byte) : (s.write8 addr v).ledger = s.ledger := by
  simp [State.ledger]

@[simp] theorem State.read8_ledger (s : State) (addr : Word) : (s.read8 addr).2.ledger = s.ledger :=
  s.readEffect_ledger addr

@[simp] theorem State.read16_ledger (s : State) (addr : Word) : (s.read16 addr).2.ledger = s.ledger := by
  simp [State.read16]

@[simp] theorem State.write16_ledger (s : State) (addr v : Word) : (s.write16 addr v).ledger = s.ledger := by
  simp [State.write16]

@[simp] theorem State.extReadEffect_ledger (s : State) (addr : Word) : (s.extReadEffect addr).ledger = s.ledger := by
  unfold State.extReadEffect
  split <;> rfl

@[simp] theorem State.operand8_ledger (s : State) (src : Src 8) : (s.operand8 src).2.ledger = s.ledger := by
  cases src with
  | imm v => rfl
  | mem m => exact s.read8_ledger _

@[simp] theorem State.operand16_ledger (s : State) (src : Src 16) : (s.operand16 src).2.ledger = s.ledger := by
  cases src with
  | imm v => rfl
  | mem m => exact s.read16_ledger _

/-! The stack, the entry and the return. -/

@[simp] theorem State.push8_ledger (s : State) (v : Byte) : (s.push8 v).ledger = s.ledger := by simp [State.push8]

@[simp] theorem State.pull8_ledger (s : State) : s.pull8.2.ledger = s.ledger := by simp [State.pull8]

@[simp] theorem State.push16_ledger (s : State) (v : Word) : (s.push16 v).ledger = s.ledger := by simp [State.push16]

@[simp] theorem State.pull16_ledger (s : State) : s.pull16.2.ledger = s.ledger := by simp [State.pull16]

@[simp] theorem State.pushFrame_ledger (s : State) : s.pushFrame.ledger = s.ledger := by simp [State.pushFrame]

@[simp] theorem State.jumpVector_ledger (s : State) (vec : Word) : (s.jumpVector vec).ledger = s.ledger := by
  simp [State.jumpVector]

@[simp] theorem State.interruptEntry_ledger (s : State) (vec : Word) : (s.interruptEntry vec).ledger = s.ledger := by
  simp [State.interruptEntry]

/-- The registers that a return from an interrupt pulls (R272) are no part of the ledger. -/
theorem State.ledger_with_registers (s : State) (cc : CC) (b a : Byte) (x pc : Word) :
    State.ledger { s with cc := cc, b := b, a := a, x := x, pc := pc } = s.ledger := rfl

theorem State.returnFromInterrupt_ledger (s : State) : s.returnFromInterrupt.ledger = s.ledger := by
  rw [State.returnFromInterrupt, State.ledger_with_registers]
  simp

@[simp] theorem State.call_ledger (s : State) (target : Word) : (s.call target).ledger = s.ledger := by
  simp [State.call]

theorem State.branch_ledger (s : State) (k : Cond) (rr : Byte) : (s.branch k rr).ledger = s.ledger := by
  unfold State.branch
  split <;> rfl

theorem State.illegalSlot_ledger (s : State) : s.illegalSlot.ledger = s.ledger := by
  unfold State.illegalSlot
  split
  · rfl
  · exact s.interruptEntry_ledger _

/-! Every instruction. -/

/-- The instruction's meaning leaves the ledger as it was. -/
def KeepsLedger (i : Instr) : Prop := ∀ s t : State, exec i s = .next t → t.ledger = s.ledger

/-- It is enough that the meaning is a function on states that keeps the ledger. -/
theorem KeepsLedger.of_exec {i : Instr} {f : State → State} (hexec : ∀ s, exec i s = .next (f s))
    (hledger : ∀ s, (f s).ledger = s.ledger) : KeepsLedger i := by
  intro s t h
  obtain rfl : f s = t := Host.Outcome.next.inj ((hexec s).symm.trans h)
  exact hledger s

/-- No instruction moves a counter, sets or clears a latch, or drives an input line, by the shapes of the instructions. -/
theorem keepsLedger : ∀ i, KeepsLedger i :=
  instr_cases
    (add := fun r src => .of_exec (exec_add r src) fun s => by simp [State.addAcc])
    (adc := fun r src => .of_exec (exec_adc r src) fun s => by simp [State.addAcc])
    (sub := fun r src => .of_exec (exec_sub r src) fun s => by simp [State.subAcc])
    (sbc := fun r src => .of_exec (exec_sbc r src) fun s => by simp [State.subAcc])
    (cmp := fun r src => .of_exec (exec_cmp r src) fun s => by simp [State.cmpAcc])
    (lda := fun r src => .of_exec (exec_lda r src) fun s => by simp [State.loadAcc])
    (addD := fun src => .of_exec (exec_addD src) fun s => by simp [State.addD])
    (subD := fun src => .of_exec (exec_subD src) fun s => by simp [State.subD])
    (ldd := fun src => .of_exec (exec_ldd src) fun s => by simp [State.loadD])
    (ldx := fun src => .of_exec (exec_ldx src) fun s => by simp [State.loadX])
    (lds := fun src => .of_exec (exec_lds src) fun s => by simp [State.loadSp])
    (sta := fun r m => .of_exec (exec_sta r m) fun s => by simp [State.storeAcc])
    (std := fun m => .of_exec (exec_std m) fun s => by simp [State.storeD])
    (stx := fun m => .of_exec (exec_stx m) fun s => by simp [State.storeX])
    (jsr := fun m => .of_exec (exec_jsr m) fun s => s.call_ledger (m.ea s))
    (jmp := fun _ _ h => .of_exec (exec_jmp · h) fun _ => rfl)
    (shiftAcc := fun k r => .of_exec (exec_shiftAcc k r) fun s => by simp [State.shiftAcc])
    (shiftMem := fun _ _ _ h => .of_exec (exec_shiftMem · h) fun s => by simp [State.shiftMem])
    (maskMem := fun _ _ _ _ h => .of_exec (exec_maskMem · h) fun s => by
      split
      · simp [State.testMem]
      · simp [State.updateMem])
    (branch := fun k rr => .of_exec (exec_branch k rr) (·.branch_ledger k rr))
    (illegal := fun _ h => .of_exec (exec_illegal · h) State.illegalSlot_ledger)
    (daa := .of_exec exec_daa fun _ => rfl)
    (mul := .of_exec exec_mul fun _ => rfl)
    (inca := .of_exec exec_inca fun _ => rfl)
    (incb := .of_exec exec_incb fun _ => rfl)
    (deca := .of_exec exec_deca fun _ => rfl)
    (decb := .of_exec exec_decb fun _ => rfl)
    (inx := .of_exec exec_inx fun _ => rfl)
    (dex := .of_exec exec_dex fun _ => rfl)
    (asld := .of_exec exec_asld fun _ => rfl)
    (lsrd := .of_exec exec_lsrd fun _ => rfl)
    (bsr := fun rr => .of_exec (exec_bsr rr) fun s => s.call_ledger (s.relTarget rr))
    (rts := .of_exec exec_rts fun s => by simp [State.returnFromCall])
    (rti := .of_exec exec_rti State.returnFromInterrupt_ledger)
    (wai := .of_exec exec_wai fun _ => rfl)
    (slp := .of_exec exec_slp fun _ => rfl)
    (nop := .of_exec exec_nop fun _ => rfl)
    (tap := .of_exec exec_tap fun _ => rfl)
    (tpa := .of_exec exec_tpa fun _ => rfl)
    (clv := .of_exec exec_clv fun _ => rfl)
    (sev := .of_exec exec_sev fun _ => rfl)
    (clc := .of_exec exec_clc fun _ => rfl)
    (sec := .of_exec exec_sec fun _ => rfl)
    (cli := .of_exec exec_cli fun _ => rfl)
    (sei := .of_exec exec_sei fun _ => rfl)

/-! The fetch. -/

theorem State.fetch8_ledger {s : State} {p : Byte × State} (h : s.fetch8 = .ok p) : p.2.ledger = s.ledger := by
  obtain ⟨-, rfl⟩ := State.fetch8_ok h
  simp

theorem State.fetchMany_ledger {n : Nat} {s : State} {p : List Byte × State} (h : s.fetchMany n = .ok p) :
    p.2.ledger = s.ledger := by
  fun_induction State.fetchMany s n generalizing p with
  | case1 => cases h; rfl
  | case4 s n b hb bs hbs ih => cases h; exact (ih hbs).trans (State.fetch8_ledger hb)
  | case2 | case3 => cases h

/-! What a step charges (R127). -/

/-- A slot that gives an instruction has a positive cost (R98, R127, R273). -/
theorem slotCost_pos {c : Config} {op : Byte} {operands : List Byte} {i : Instr} (hwf : c.wf = true)
    (hi : dispatch c op operands = some i) : 0 < slotCost c op := by
  obtain ⟨hop, hillegal⟩ := entryOf_cost hwf op
  unfold slotCost
  cases he : entryOf c op with
  | op slot cycles => exact (hop slot cycles he).1
  | illegal cycles =>
    cases hp : c.illegalPolicy with
    | nop => simpa [hp] using hillegal cycles he
    | trap => simpa [hp] using (Config.costs_pos hwf).2.2
  | unspecified => simp [dispatch, he] at hi

/-- An instruction of a step: its effects keep the ledger, then a positive cost is charged. -/
theorem State.runInstruction_charges {s t : State} (hwf : s.cfg.wf = true) (h : s.runInstruction = .next t) :
    ∃ (u : State) (c : Nat), 0 < c ∧ u.ledger = s.ledger ∧ t = u.account c := by
  obtain ⟨op, i, u, v, hfetch, hexec, rfl⟩ := State.runInstruction_next h
  obtain ⟨operands, hmany, hi⟩ := State.fetchMany_of_fetch_ok hfetch
  exact ⟨v, _, slotCost_pos hwf hi, (keepsLedger i u v hexec).trans (State.fetchMany_ledger hmany), rfl⟩

/-- An interrupt entry clears at most the NMI latch (R374). -/
theorem State.takeInterrupt_progress (s : State) (src : Source) :
    (s.takeInterrupt src).icount = s.icount ∧ (s.takeInterrupt src).total = s.total ∧
      (s.takeInterrupt src).rstPend = s.rstPend := by
  cases src with
  | nmi => exact State.progress_of_ledger_eq (s := { s with nmiPend := false }) (by simp [State.takeInterrupt])
  | reset | irq | icf | ocf | tof | sci => exact State.progress_of_ledger_eq (by simp [State.takeInterrupt])

/-- The reset sequence clears the reset latch and no counter (R400). -/
theorem State.resetSequence_progress (s : State) :
    s.resetSequence.icount = s.icount ∧ s.resetSequence.total = s.total ∧ s.resetSequence.rstPend = false :=
  State.progress_of_ledger_eq (s := s.resetRegisters) (State.jumpVector_ledger _ _)

/-- The poll returns `reset` only if the reset latch is set (R371, R373). -/
theorem State.rstPend_of_poll_reset {s : State} (h : s.poll = some .reset) : s.rstPend = true :=
  List.find?_some (p := fun src => s.requests src) h

/-- A step is taken only by a machine that constructs (R7). -/
theorem cfg_wf_of_step_next {s t : State} (h : step s = .next t) : s.cfg.wf = true := by
  by_contra hwf
  simp [step, hwf] at h

/-- What a step charges: it leads to a state `u` with the counters of `s`, then accounts for `c` cycles, at least one
unless the step took the reset latch. -/
theorem step_charges {s t : State} (h : step s = .next t) :
    ∃ (u : State) (c : Nat), t = u.account c ∧ u.icount = s.icount ∧ u.total = s.total ∧
      ((0 < c ∧ u.rstPend = s.rstPend) ∨ (c = 0 ∧ s.rstPend = true ∧ u.rstPend = false)) := by
  have hwf := cfg_wf_of_step_next h
  obtain ⟨hpoll, rfl⟩ | ⟨src, -, -, rfl⟩ | ⟨-, -, rfl⟩ | ⟨-, -, hrun⟩ := step_next h
  · obtain ⟨hicount, htotal, hlatch⟩ := s.resetSequence_progress
    exact ⟨_, 0, rfl, hicount, htotal, .inr ⟨rfl, State.rstPend_of_poll_reset hpoll, hlatch⟩⟩
  · obtain ⟨hicount, htotal, hlatch⟩ := s.takeInterrupt_progress src
    exact ⟨_, _, rfl, hicount, htotal, .inl ⟨(Config.costs_pos hwf).2.1, hlatch⟩⟩
  · exact ⟨s, 1, rfl, rfl, rfl, .inl ⟨Nat.one_pos, rfl⟩⟩
  · obtain ⟨u, c, hc, hledger, rfl⟩ := State.runInstruction_charges hwf hrun
    obtain ⟨hicount, htotal, hlatch⟩ := State.progress_of_ledger_eq hledger
    exact ⟨u, c, rfl, hicount, htotal, .inl ⟨hc, hlatch⟩⟩

/-! Forward progress (R140). -/

/-- The step part of O18. -/
theorem step_progress {s t : State} (h : step s = .next t) :
    (s.total < t.total ∨ (s.rstPend = true ∧ t.rstPend = false ∧ t.total = s.total)) ∧
      t.icount + t.total = s.icount + s.total ∧ (s.rstPend = false → t.rstPend = false) := by
  obtain ⟨u, c, rfl, hicount, htotal, hcost⟩ := step_charges h
  simp only [State.account_total, State.account_icount, State.account_rstPend, hicount, htotal]
  refine ⟨?_, by push_cast; ring, ?_⟩
  · obtain ⟨hc, -⟩ | ⟨rfl, hset, hclear⟩ := hcost
    · exact .inl (Nat.lt_add_of_pos_right hc)
    · exact .inr ⟨hset, hclear, rfl⟩
  · obtain ⟨-, hlatch⟩ | ⟨-, -, hclear⟩ := hcost
    · exact hlatch.trans
    · exact fun _ => hclear

/-- A bound on the steps that a run still takes: one for each cycle of the budget, and one for a latched reset. -/
def State.stepsLeft (s : State) : Nat := s.icount.toNat + s.rstPend.toNat

/-- Within the budget, each step brings the end of the run nearer. -/
theorem step_stepsLeft_lt {s t : State} (h : step s = .next t) (hbudget : 0 < s.icount) : t.stepsLeft < s.stepsLeft := by
  obtain ⟨hprogress, hcounters, hlatch⟩ := step_progress h
  unfold State.stepsLeft
  obtain htotal | ⟨hset, hclear, htotal⟩ := hprogress
  · have hle : t.rstPend.toNat ≤ s.rstPend.toNat := by
      cases hs : s.rstPend with
      | false => simp [hlatch hs]
      | true => exact t.rstPend.toNat_le
    omega
  · simp only [hset, hclear, Bool.toNat_true, Bool.toNat_false]
    omega

/-- A loop ends that has fuel for the steps left, by the recursion of the loop. -/
theorem runLoop_ne_none {fuel : Nat} {s : State} (hfuel : s.stepsLeft ≤ fuel) : runLoop fuel s ≠ none := by
  fun_induction runLoop fuel s with
  | case2 s hbudget =>
    unfold State.stepsLeft at hfuel
    omega
  | case3 s hbudget fuel t hstep ih =>
    have := step_stepsLeft_lt hstep (Int.not_le.mp hbudget)
    exact ih (by omega)
  | case1 | case4 | case5 => exact nofun

/-- `Run(n)` grants one step more than its budget has cycles, and that is enough. -/
theorem State.run_ne_none (s : State) (n : Nat) : s.run n ≠ none :=
  runLoop_ne_none (Nat.add_le_add_left s.rstPend.toNat_le _)

/-- Settles O18: what a step charges, and the steps that a run has left. -/
theorem everyStepMakesProgress : Obligations.EveryStepMakesProgress :=
  ⟨fun _ _ => step_progress, State.run_ne_none⟩

/-! Waiting (R128). -/

/-- A waiting step with nothing to take is the accounting of one cycle. -/
theorem step_eq_account_of_waiting {s : State} (hwf : s.cfg.wf = true) (hmode : s.mode ≠ .run) (hpoll : s.poll = none) :
    step s = .next (s.account 1) := by
  unfold step State.dispatchStep
  cases hm : s.mode with
  | run => exact absurd hm hmode
  | waitWai | waitSlp => simp [hwf, hpoll]

/-- Settles O14: the step is the accounting of one cycle, which advances the timer by one tick. -/
theorem waitingStepOnlyAdvances : Obligations.WaitingStepOnlyAdvances := by
  intro s hwf hmode hpoll
  have hcharged : Charged s (s.account 1) 1 := s.account_charged Nat.one_pos
  exact ⟨s.account 1, step_eq_account_of_waiting hwf hmode hpoll, hcharged, s.account_pc 1, s.account_mem 1,
    s.account_mode 1, congrArg State.tim hcharged⟩

end Sys2Proof.Machine

/-!
Proofs of the family 41_arithmetic: sums, differences, their flags, and the instructions that write them.

A sum with its carry out is the sum of the operands and the carry in (spec/41_arithmetic.md R150), and the carry out of
a place is the majority of the three bits that meet there, which gives the bit forms of `C` and `H`. A subtraction is
the addition of the complement with the carry complemented on the way in and out (R151), so what holds of sums gives
what holds of differences. Each instruction then writes the flags of `Claims.nzvc`.
-/

namespace Sys2Proof.Machine

open Sys2Proof.Claims Sys2Proof.Laws

/-! Sums (R150, R152). -/

theorem beq_zero_eq_decide_toNat {w : Nat} (r : BitVec w) : (r == 0#w) = decide (r.toNat = 0) := by
  simp [BitVec.toNat_eq, beq_eq_decide]

theorem addRes_r_eq_add (w : Nat) (a b : BitVec w) (cin : Bool) :
    (addRes w a b cin).r = a + b + (BitVec.ofBool cin).setWidth w := by
  apply BitVec.eq_of_toNat_eq
  simp [addRes]

/-- The sum and its carry out are the sum of the operands and the carry in. -/
theorem addRes_toNat_add_carry (w : Nat) (a b : BitVec w) (cin : Bool) :
    (addRes w a b cin).r.toNat + (addRes w a b cin).c.toNat * 2 ^ w = a.toNat + b.toNat + cin.toNat := by
  have hlt : a.toNat + b.toNat + cin.toNat < 2 ^ w + 2 ^ w := by
    have := cin.toNat_le
    omega
  simp only [addRes, BitVec.toNat_ofNat]
  rcases Nat.lt_or_ge (a.toNat + b.toNat + cin.toNat) (2 ^ w) with h | h
  · simp [Nat.mod_eq_of_lt h, h]
  · rw [Nat.mod_eq_sub_mod h, Nat.mod_eq_of_lt (Nat.sub_lt_left_of_lt_add h hlt), decide_eq_true h, Bool.toNat_true,
      Nat.one_mul, Nat.sub_add_cancel h]

/-- `C` is the carry out of the top place. -/
theorem addRes_c_eq_carry (w : Nat) (a b : BitVec w) (cin : Bool) : (addRes w a b cin).c = BitVec.carry w a b cin := by
  simp [addRes, BitVec.carry, Nat.mod_eq_of_lt a.isLt, Nat.mod_eq_of_lt b.isLt]

/-- `H` is the carry out of place 3. -/
theorem halfCarry_eq_carry (a b : Byte) (cin : Bool) : halfCarry a b cin = BitVec.carry (3 + 1) a b cin := rfl

/-- The bit form of a carry out (R150): both operands have the bit, or one has it and the sum has not. -/
theorem carry_succ_eq_bits {w i : Nat} (hi : i < w) (a b : BitVec w) (cin : Bool) :
    BitVec.carry (i + 1) a b cin =
      ((a &&& b) ||| (b &&& ~~~(addRes w a b cin).r) ||| (~~~(addRes w a b cin).r &&& a)).getLsbD i := by
  simp only [BitVec.carry_succ, addRes_r_eq_add, BitVec.getLsbD_or, BitVec.getLsbD_and, BitVec.getLsbD_not, hi,
    BitVec.getLsbD_add_add_bool hi, decide_true, Bool.true_and]
  cases a.getLsbD i <;> cases b.getLsbD i <;> cases BitVec.carry i a b cin <;> rfl

/-- Overflow of a sum from the three signs (R150): the operands' agree and the result's differs. -/
theorem addRes_v_eq_signs (w : Nat) (a b : BitVec w) (cin : Bool) :
    (addRes w a b cin).v = (decide (a.msb = b.msb) && decide ((addRes w a b cin).r.msb ≠ a.msb)) := by
  change (a.msb == b.msb && (addRes w a b cin).r.msb != a.msb) = _
  cases a.msb <;> cases b.msb <;> cases (addRes w a b cin).r.msb <;> rfl

theorem addRes_v_eq_bits (w : Nat) (a b : BitVec w) (cin : Bool) :
    (addRes w a b cin).v = ((a ^^^ (addRes w a b cin).r) &&& (b ^^^ (addRes w a b cin).r)).msb := by
  rw [addRes_v_eq_signs, BitVec.msb_and, BitVec.msb_xor, BitVec.msb_xor]
  cases a.msb <;> cases b.msb <;> cases (addRes w a b cin).r.msb <;> rfl

/-- Overflow of a sum says that the sum of the signed operands does not fit, by the signs of the operands. -/
theorem addRes_v_eq_overflows {w : Nat} (hw : 0 < w) (a b : BitVec w) (cin : Bool) :
    (addRes w a b cin).v = overflows w (a.toInt + b.toInt + cin.toNat) := by
  have ha := a.isLt
  have hb := b.isLt
  have hr := (addRes w a b cin).r.isLt
  have hcin := cin.toNat_le
  have hsum := addRes_toNat_add_carry w a b cin
  have hhalf : (2 ^ (w - 1) : Int) = (2 ^ (w - 1) : Nat) := by norm_cast
  simp only [addRes_v_eq_signs, overflows, BitVec.toInt_eq_msb_cond, BitVec.msb_eq_decide, hhalf,
    ← Nat.two_pow_pred_mul_two hw] at *
  generalize 2 ^ (w - 1) = half at *
  simp only [← Bool.decide_and, decide_eq_decide, decide_eq_true_eq, ne_eq]
  cases hc : (addRes w a b cin).c <;> simp only [hc, Bool.toNat_true, Bool.toNat_false] at hsum <;>
    split <;> split <;> omega

theorem addRes_r_no_carry (w : Nat) (a b : BitVec w) : (addRes w a b false).r = a + b := by
  simp [addRes, BitVec.ofNat_add]

/-! Differences (R151, R152). -/

theorem toNat_not_add_toNat {w : Nat} (b : BitVec w) : (~~~b).toNat + b.toNat + 1 = 2 ^ w := by
  have hb := b.isLt
  rw [BitVec.toNat_not]
  omega

theorem toInt_not_of_pos {w : Nat} (hw : 0 < w) (b : BitVec w) : (~~~b).toInt = -b.toInt - 1 := by
  have hnot := toNat_not_add_toNat b
  simp only [BitVec.toInt_eq_msb_cond, BitVec.msb_not, hw, decide_true, Bool.true_and]
  cases b.msb <;> simp only [Bool.not_true, Bool.not_false, Bool.false_eq_true, if_true, if_false] <;> omega

/-- A subtraction is the addition of the complement, with the carry complemented on the way in and out. -/
theorem subRes_eq_addRes_not {w : Nat} (hw : 0 < w) (a b : BitVec w) (bin : Bool) :
    subRes w a b bin = { addRes w a (~~~b) (!bin) with c := !(addRes w a (~~~b) (!bin)).c } := by
  have hnot := toNat_not_add_toNat b
  have hbin : (!bin).toNat + bin.toNat = 1 := by cases bin <;> rfl
  have hr : BitVec.ofInt w (a.toNat - b.toNat - bin.toNat) = (addRes w a (~~~b) (!bin)).r := by
    have hdiff : (a.toNat - b.toNat - bin.toNat : Int) =
        (a.toNat + (~~~b).toNat + (!bin).toNat : Nat) - (2 ^ w : Nat) := by omega
    apply BitVec.eq_of_toNat_eq
    rw [BitVec.toNat_ofInt, hdiff, Int.sub_emod_right, addRes, BitVec.toNat_ofNat]
    norm_cast
  have hc : decide ((a.toNat - b.toNat - bin.toNat : Int) < 0) = !(addRes w a (~~~b) (!bin)).c := by
    simp only [addRes, ← decide_not, decide_eq_decide]
    omega
  have hv (r : BitVec w) : (a.msb != b.msb && r.msb != a.msb) = (a.msb == (~~~b).msb && r.msb != a.msb) := by
    simp only [BitVec.msb_not, hw, decide_true, Bool.true_and]
    cases a.msb <;> cases b.msb <;> rfl
  simp only [subRes, hr, hc, hv]
  rfl

theorem subRes_r_toNat (w : Nat) (a b : BitVec w) (bin : Bool) :
    ((subRes w a b bin).r.toNat : Int) = (a.toNat - b.toNat - bin.toNat) % (2 ^ w : Nat) := by
  rw [subRes, BitVec.toNat_ofInt]
  exact Int.toNat_of_nonneg (Int.emod_nonneg _ (by positivity))

theorem subRes_r_no_borrow (w : Nat) (a b : BitVec w) : (subRes w a b false).r = a - b := by
  simp [subRes, Int.sub_eq_add_neg, BitVec.ofInt_add, BitVec.ofInt_neg, BitVec.sub_eq_add_neg]

/-- `C` is the borrow (R151). -/
theorem subRes_c_eq_borrow (w : Nat) (a b : BitVec w) (bin : Bool) :
    (subRes w a b bin).c = decide (a.toNat < b.toNat + bin.toNat) := by
  simp only [subRes, decide_eq_decide]
  omega

/-- The bit form of the borrow (R151), from that of the carry. -/
theorem subRes_c_eq_bits {w : Nat} (hw : 0 < w) (a b : BitVec w) (bin : Bool) :
    (subRes w a b bin).c = ((~~~a &&& b) ||| (b &&& (subRes w a b bin).r) ||| ((subRes w a b bin).r &&& ~~~a)).msb := by
  have hcarry := carry_succ_eq_bits (Nat.sub_one_lt_of_lt hw) a (~~~b) (!bin)
  rw [Nat.sub_add_cancel hw, ← BitVec.msb_eq_getLsbD_last] at hcarry
  simp only [subRes_eq_addRes_not hw, addRes_c_eq_carry, hcarry, BitVec.msb_or, BitVec.msb_and, BitVec.msb_not, hw,
    decide_true, Bool.true_and]
  cases a.msb <;> cases b.msb <;> cases (addRes w a (~~~b) (!bin)).r.msb <;> rfl

/-- Overflow of a difference from the signs (R151): the operands' differ, and the result's is not the minuend's. -/
theorem subRes_v_eq_signs (w : Nat) (a b : BitVec w) (bin : Bool) :
    (subRes w a b bin).v = (decide (a.msb ≠ b.msb) && decide ((subRes w a b bin).r.msb ≠ a.msb)) := by
  change (a.msb != b.msb && (subRes w a b bin).r.msb != a.msb) = _
  cases a.msb <;> cases b.msb <;> cases (subRes w a b bin).r.msb <;> rfl

theorem subRes_v_eq_bits (w : Nat) (a b : BitVec w) (bin : Bool) :
    (subRes w a b bin).v = ((a ^^^ b) &&& (a ^^^ (subRes w a b bin).r)).msb := by
  rw [subRes_v_eq_signs, BitVec.msb_and, BitVec.msb_xor, BitVec.msb_xor]
  cases a.msb <;> cases b.msb <;> cases (subRes w a b bin).r.msb <;> rfl

/-- Overflow of a difference says that the difference of the signed operands does not fit. -/
theorem subRes_v_eq_overflows {w : Nat} (hw : 0 < w) (a b : BitVec w) (bin : Bool) :
    (subRes w a b bin).v = overflows w (a.toInt - b.toInt - bin.toNat) := by
  have hbin : ((!bin).toNat : Int) = 1 - bin.toNat := by cases bin <;> rfl
  rw [subRes_eq_addRes_not hw, addRes_v_eq_overflows hw, toInt_not_of_pos hw, hbin]
  congr 1
  ring

/-! Sums without carry in, differences without borrow in (R152). -/

/-- The whole result of a sum without carry in. -/
theorem addRes_no_carry (w : Nat) (a b : BitVec w) :
    addRes w a b false = ⟨a + b, (a + b).msb, decide ((a + b).toNat = 0),
      decide (a.msb = b.msb) && decide ((a + b).msb ≠ a.msb), decide (2 ^ w ≤ a.toNat + b.toNat)⟩ := by
  rw [← addRes_r_no_carry, ← addRes_v_eq_signs, ← beq_zero_eq_decide_toNat]
  rfl

/-- The whole result of a difference without borrow in. -/
theorem subRes_no_borrow (w : Nat) (a b : BitVec w) :
    subRes w a b false = ⟨a - b, (a - b).msb, decide ((a - b).toNat = 0),
      decide (a.msb ≠ b.msb) && decide ((a - b).msb ≠ a.msb), decide (a.toNat < b.toNat)⟩ := by
  have hc : decide (a.toNat < b.toNat) = (subRes w a b false).c := (subRes_c_eq_borrow w a b false).symm
  rw [← subRes_r_no_borrow, ← subRes_v_eq_signs, ← beq_zero_eq_decide_toNat, hc]
  rfl

/-- Settles O28: the laws of sums and of differences at 8 bits, then at 16. -/
theorem addAndSubtractBits : Obligations.AddAndSubtractBits := by
  refine ⟨fun a b cin => ?_, fun a b bin => ?_, fun a b => ⟨addRes_no_carry 16 a b, subRes_no_borrow 16 a b⟩⟩
  · have hc : (addRes 8 a b cin).c = _ :=
      (addRes_c_eq_carry 8 a b cin).trans (carry_succ_eq_bits (i := 7) (by decide) a b cin)
    have hh : halfCarry a b cin = _ := (halfCarry_eq_carry a b cin).trans (carry_succ_eq_bits (by decide) a b cin)
    exact ⟨BitVec.toNat_ofNat .., rfl, hc, rfl, hh, rfl, beq_zero_eq_decide_toNat _, addRes_v_eq_signs 8 a b cin,
      addRes_v_eq_bits 8 a b cin, addRes_v_eq_overflows (by decide) a b cin⟩
  · exact ⟨subRes_r_toNat 8 a b bin, subRes_c_eq_borrow 8 a b bin, subRes_c_eq_bits (by decide) a b bin, rfl,
      beq_zero_eq_decide_toNat _, subRes_v_eq_signs 8 a b bin, subRes_v_eq_bits 8 a b bin,
      subRes_v_eq_overflows (by decide) a b bin⟩

/-! The operand's read (R93, R94) and the flags after it. -/

@[simp] theorem State.operand8_cc (s : State) (src : Src 8) : (s.operand8 src).2.cc = s.cc := by
  cases src with
  | imm v => rfl
  | mem m => exact s.read8_cc _

@[simp] theorem State.operand16_cc (s : State) (src : Src 16) : (s.operand16 src).2.cc = s.cc := by
  cases src with
  | imm v => rfl
  | mem m => exact s.read16_cc _

/-- The flags of a sum, as `Claims.nzvc` writes them (R150, R152). -/
theorem CC.setNzvc_addRes {w : Nat} (hw : 0 < w) (f : CC) (a b : BitVec w) (cin : Bool) :
    f.setNzvc (addRes w a b cin) =
      nzvc f (addRes w a b cin).r (overflows w (a.toInt + b.toInt + cin.toNat))
        (decide (2 ^ w ≤ a.toNat + b.toNat + cin.toNat)) := by
  rw [← addRes_v_eq_overflows hw, nzvc, ← beq_zero_eq_decide_toNat]
  rfl

/-- The flags of a sum without carry in. -/
theorem CC.setNzvc_addRes_no_carry {w : Nat} (hw : 0 < w) (f : CC) (a b : BitVec w) :
    f.setNzvc (addRes w a b false) =
      nzvc f (a + b) (overflows w (a.toInt + b.toInt)) (decide (2 ^ w ≤ a.toNat + b.toNat)) := by
  rw [CC.setNzvc_addRes hw, addRes_r_no_carry]
  simp

/-- The flags of a difference, as `Claims.nzvc` writes them (R151, R152). -/
theorem CC.setNzvc_subRes {w : Nat} (hw : 0 < w) (f : CC) (a b : BitVec w) (bin : Bool) :
    f.setNzvc (subRes w a b bin) =
      nzvc f (subRes w a b bin).r (overflows w (a.toInt - b.toInt - bin.toNat))
        (decide (a.toNat < b.toNat + bin.toNat)) := by
  rw [← subRes_v_eq_overflows hw, ← subRes_c_eq_borrow, nzvc, ← beq_zero_eq_decide_toNat]
  rfl

/-- The flags of a difference without borrow in. -/
theorem CC.setNzvc_subRes_no_borrow {w : Nat} (hw : 0 < w) (f : CC) (a b : BitVec w) :
    f.setNzvc (subRes w a b false) = nzvc f (a - b) (overflows w (a.toInt - b.toInt)) (decide (a.toNat < b.toNat)) := by
  rw [CC.setNzvc_subRes hw, subRes_r_no_borrow]
  simp

/-! ADD, ADC, SUB, SBC, CMP, ADDD, SUBD (R153 to R164). -/

/-- Settles O29: the flags of a sum, and the rows of R97. -/
theorem addResult : Obligations.AddResult := by
  refine ⟨fun r src s => ?_, fun r src s => ?_, ?_, ?_⟩
  · rw [exec_add, State.addAcc, CC.setHnzvc, CC.setNzvc_addRes_no_carry (by decide), State.operand8_cc,
      ← addRes_r_no_carry]
    rfl
  · rw [exec_adc, State.addAcc, CC.setHnzvc, CC.setNzvc_addRes (by decide), State.operand8_cc]
    rfl
  all_goals
    intro v dd ff hhll
    and_intros <;> rfl

/-- Settles O30: the flags of a difference, and the rows of R97. -/
theorem subtractResult : Obligations.SubtractResult := by
  refine ⟨fun r src s => ?_, fun r src s => ?_, ?_, ?_⟩
  · rw [exec_sub, State.subAcc, CC.setNzvc_subRes_no_borrow (by decide), State.operand8_cc, subRes_r_no_borrow]
  · rw [exec_sbc, State.subAcc, CC.setNzvc_subRes (by decide), State.operand8_cc]
    rfl
  all_goals
    intro v dd ff hhll
    and_intros <;> rfl

/-- Settles O31: the flags of a difference, and the rows of R97. -/
theorem compareResult : Obligations.CompareResult := by
  refine ⟨fun r src s => ?_, fun v dd ff hhll => ?_⟩
  · rw [exec_cmp, State.cmpAcc, CC.setNzvc_subRes_no_borrow (by decide), State.operand8_cc]
  · and_intros <;> rfl

/-- Settles O32: the flags of a sum and of a difference on 16 bits, and the rows of R97. -/
theorem wordAddSubtractResult : Obligations.WordAddSubtractResult := by
  refine ⟨fun src s => ?_, fun src s => ?_, ?_, ?_, fun src => ?_⟩
  · rw [exec_addD, State.addD, CC.setNzvc_addRes_no_carry (by decide), State.operand16_cc, addRes_r_no_carry]
    rfl
  · rw [exec_subD, State.subD, CC.setNzvc_subRes_no_borrow (by decide), State.operand16_cc, subRes_r_no_borrow]
    rfl
  · intro v dd ff hhll
    and_intros <;> rfl
  · intro v dd ff hhll
    and_intros <;> rfl
  · cases src with
    | imm v => exact ⟨rfl, rfl⟩
    | mem m => cases m <;> exact ⟨rfl, rfl⟩

/-! DAA (R165). -/

/-- The correction of each digit, as numbers: 6 for the low one, 96 for the high one. -/
theorem daaSum_eq (a : Byte) (h c : Bool) :
    daaSum a h c = a.toNat + (if 9 < a.toNat % 16 ∨ h = true then 6 else 0) +
      (if 9 < a.toNat / 16 ∨ c = true ∨ (8 < a.toNat / 16 ∧ 9 < a.toNat % 16) then 96 else 0) := by
  simp only [daaSum, daaCorrection, Bool.or_eq_true, Bool.and_eq_true, decide_eq_true_eq, Nat.add_assoc, ← or_assoc]
  congr 1
  by_cases hlow : 9 < a.toNat % 16 ∨ h = true <;> by_cases hhigh : 9 < a.toNat / 16 ∨ c = true <;>
    by_cases hboth : 8 < a.toNat / 16 ∧ 9 < a.toNat % 16 <;> simp [hlow, hhigh, hboth]

theorem exec_daa_eq (s : State) : exec .daa s = .next { s with
      a := BitVec.ofNat 8 (daaSum s.a s.cc.h s.cc.c)
      cc := nzvc s.cc (BitVec.ofNat 8 (daaSum s.a s.cc.h s.cc.c)) (Config.freeFlag s.draws)
        (s.cc.c || decide (255 < daaSum s.a s.cc.h s.cc.c))
      draws := s.draws + 1 } := by
  rw [exec_daa, State.daa, nzvc, ← beq_zero_eq_decide_toNat]

/-- After the addition of tens with the sum `t` and units with the sum `u`, DAA corrects each digit that passed 9. -/
theorem daaSum_of_digits {t u : Nat} (ht : t ≤ 18) (hu : u ≤ 19) :
    daaSum (BitVec.ofNat 8 (16 * t + u)) (decide (15 < u)) (decide (256 ≤ 16 * t + u)) =
      (16 * t + u) % 256 + (if 9 < u then 6 else 0) + (if 100 ≤ 10 * t + u then 96 else 0) := by
  have hlow : 9 < (16 * t + u) % 256 % 16 ∨ 15 < u ↔ 9 < u := by omega
  have hhigh : 9 < (16 * t + u) % 256 / 16 ∨ 256 ≤ 16 * t + u ∨
      (8 < (16 * t + u) % 256 / 16 ∧ 9 < (16 * t + u) % 256 % 16) ↔ 100 ≤ 10 * t + u := by omega
  simp only [daaSum_eq, BitVec.toNat_ofNat, decide_eq_true_eq, hlow, hhigh, Nat.reducePow]

theorem toNat_bcd {n : Nat} (h : n < 100) : (bcd n).toNat = 16 * (n / 10) + n % 10 := by
  rw [bcd, BitVec.toNat_ofNat]
  omega

/-- Six more carries a digit past 9 into the next: corrected, the sum stands in the two digits of the decimal sum. -/
theorem decimal_adjust {t u : Nat} (ht : t ≤ 18) (hu : u ≤ 19) :
    ((16 * t + u) % 256 + (if 9 < u then 6 else 0) + (if 100 ≤ 10 * t + u then 96 else 0)) % 256 =
      16 * ((10 * t + u) % 100 / 10) + (10 * t + u) % 100 % 10 := by
  obtain ⟨tens, units, htens, hunits, hdecimal, hlow⟩ : ∃ tens units, tens < 20 ∧ units < 10 ∧
      10 * t + u = 10 * tens + units ∧ 16 * t + u + (if 9 < u then 6 else 0) = 16 * tens + units :=
    ⟨t + u / 10, u % 10, by omega, by omega, by omega, by split <;> omega⟩
  rw [Nat.add_assoc, Nat.mod_add_mod, ← Nat.add_assoc, hlow, hdecimal]
  rcases Nat.lt_or_ge tens 10 with h | h
  · have hn : (10 * tens + units) % 100 = 10 * tens + units := Nat.mod_eq_of_lt (by omega)
    rw [if_neg (by omega), hn]
    omega
  · have hn : (10 * tens + units) % 100 = 10 * (tens - 10) + units := by omega
    rw [if_pos (by omega), hn]
    omega

/-- The carry of the addition or of the adjustment is the decimal carry. -/
theorem decimal_carry {t u : Nat} (ht : t ≤ 18) (hu : u ≤ 19) :
    256 ≤ 16 * t + u ∨
        255 < (16 * t + u) % 256 + (if 9 < u then 6 else 0) + (if 100 ≤ 10 * t + u then 96 else 0) ↔
      100 ≤ 10 * t + u := by
  split <;> split <;> omega

/-- DAA after an addition of two decimal numbers, with either carry in: the decimal sum and the decimal carry. -/
theorem daa_addRes_bcd {p q : Nat} (hp : p < 100) (hq : q < 100) (cin : Bool) :
    let sum := addRes 8 (bcd p) (bcd q) cin
    let adjusted := daaSum sum.r (halfCarry (bcd p) (bcd q) cin) sum.c
    BitVec.ofNat 8 adjusted = bcd ((p + q + cin.toNat) % 100) ∧
      (sum.c || decide (255 < adjusted)) = decide (100 ≤ p + q + cin.toNat) := by
  have hcin := cin.toNat_le
  obtain ⟨t, u, ht, hu, hunits, hsum, hdecimal⟩ : ∃ t u, t ≤ 18 ∧ u ≤ 19 ∧
      (bcd p).toNat % 16 + (bcd q).toNat % 16 + cin.toNat = u ∧
      (bcd p).toNat + (bcd q).toNat + cin.toNat = 16 * t + u ∧ p + q + cin.toNat = 10 * t + u := by
    rw [toNat_bcd hp, toNat_bcd hq]
    exact ⟨p / 10 + q / 10, p % 10 + q % 10 + cin.toNat, by omega, by omega, by omega, by omega, by omega⟩
  simp only [addRes, halfCarry, hsum, hunits, hdecimal, Nat.reducePow, daaSum_of_digits ht hu]
  constructor
  · apply BitVec.eq_of_toNat_eq
    rw [toNat_bcd (Nat.mod_lt _ (by decide)), BitVec.toNat_ofNat]
    exact decimal_adjust ht hu
  · rw [← Bool.decide_or, decide_eq_decide]
    exact decimal_carry ht hu

/-- Settles O33: the correction digit by digit, the row of R97, and the adjustment of a decimal sum. -/
theorem daaResult : Obligations.DaaResult := by
  refine ⟨fun s => ⟨Config.freeFlag s.draws, s.draws + 1, ?_⟩, ⟨rfl, rfl, rfl⟩, fun p q s hp hq ha => ?_⟩
  · rw [exec_daa_eq, daaSum_eq]
  · obtain ⟨hresult, hcarry⟩ := daa_addRes_bcd hp hq false
    rw [← ha] at hresult hcarry
    exact ⟨_, _, exec_add .A _ s, exec_daa_eq _, hresult, hcarry⟩

/-! MUL (R166). -/

theorem hiByte_ofNat {n : Nat} (h : n < 65536) : hiByte (BitVec.ofNat 16 n) = BitVec.ofNat 8 (n / 256) := by
  apply BitVec.eq_of_toNat_eq
  rw [hiByte, BitVec.extractLsb'_toNat, BitVec.toNat_ofNat, Nat.mod_eq_of_lt h, Nat.shiftRight_eq_div_pow,
    BitVec.toNat_ofNat]

theorem loByte_ofNat (n : Nat) : loByte (BitVec.ofNat 16 n) = BitVec.ofNat 8 n := by
  apply BitVec.eq_of_toNat_eq
  rw [loByte, BitVec.extractLsb'_toNat, BitVec.toNat_ofNat, Nat.shiftRight_zero, BitVec.toNat_ofNat]
  exact Nat.mod_mod_of_dvd n (by decide)

theorem getLsbD_ofNat_seven (n : Nat) : (BitVec.ofNat 16 n).getLsbD 7 = decide (128 ≤ n % 256) := by
  rw [BitVec.getLsbD_ofNat, Nat.testBit_eq_decide_div_mod_eq]
  simp only [Nat.reducePow, Nat.reduceLT, decide_true, Bool.true_and, decide_eq_decide]
  omega

/-- Settles O35: the product is below 2^16, so D holds all of it. -/
theorem multiplyResult : Obligations.MultiplyResult := by
  refine ⟨fun s => ?_, ⟨rfl, rfl, rfl⟩, rfl⟩
  have hproduct : s.a.toNat * s.b.toNat < 65536 := Nat.mul_lt_mul'' s.a.isLt s.b.isLt
  rw [exec_mul, State.mul, State.setD, hiByte_ofNat hproduct, loByte_ofNat, getLsbD_ofNat_seven]
  rfl

/-! INC, DEC, INX, DEX (R167 to R172). -/

theorem add_one_eq_ofNat {w : Nat} (v : BitVec w) : v + 1#w = BitVec.ofNat w (v.toNat + 1) := by
  rw [BitVec.ofNat_add, BitVec.ofNat_toNat, BitVec.setWidth_eq]

theorem sub_one_eq_ofNat {w : Nat} (v : BitVec w) : v - 1#w = BitVec.ofNat w (v.toNat + (2 ^ w - 1)) := by
  have hones : BitVec.ofNat w (2 ^ w - 1) = BitVec.allOnes w := BitVec.eq_of_toNat_eq (by simp)
  rw [BitVec.ofNat_add, BitVec.ofNat_toNat, BitVec.setWidth_eq, hones, ← BitVec.neg_one_eq_allOnes,
    BitVec.sub_eq_add_neg]

/-- The flags of an increment or decrement, as `Claims.nzvc` writes them: `C` stays (R167 to R170). -/
theorem CC.setNzv_eq_nzvc {w : Nat} (f : CC) (r : BitVec w) (v : Bool) : f.setNzv r v = nzvc f r v f.c := by
  rw [nzvc, ← beq_zero_eq_decide_toNat]
  rfl

theorem State.incAcc_eq (s : State) (r : Acc) :
    s.incAcc r = (s.setAcc r (BitVec.ofNat 8 ((s.acc r).toNat + 1))).setCc
      (nzvc s.cc (BitVec.ofNat 8 ((s.acc r).toNat + 1)) (decide ((s.acc r).toNat = 0x7F)) s.cc.c) := by
  have hv : (s.acc r + 1#8 == 0x80#8) = decide ((s.acc r).toNat = 0x7F) := by
    rw [beq_eq_decide, decide_eq_decide]
    bv_omega
  rw [State.incAcc, CC.setNzv_eq_nzvc, hv, add_one_eq_ofNat]

theorem State.decAcc_eq (s : State) (r : Acc) :
    s.decAcc r = (s.setAcc r (BitVec.ofNat 8 ((s.acc r).toNat + 255))).setCc
      (nzvc s.cc (BitVec.ofNat 8 ((s.acc r).toNat + 255)) (decide ((s.acc r).toNat = 0x80)) s.cc.c) := by
  have hv : (s.acc r - 1#8 == 0x7F#8) = decide ((s.acc r).toNat = 0x80) := by
    rw [beq_eq_decide, decide_eq_decide]
    bv_omega
  have hr : s.acc r - 1#8 = BitVec.ofNat 8 ((s.acc r).toNat + 255) := sub_one_eq_ofNat (s.acc r)
  rw [State.decAcc, CC.setNzv_eq_nzvc, hv, hr]

theorem State.incX_eq (s : State) : s.incX = { s with
    x := BitVec.ofNat 16 (s.x.toNat + 1), cc := { s.cc with z := decide (s.x.toNat = 0xFFFF) } } := by
  have hz : (s.x + 1#16 == 0#16) = decide (s.x.toNat = 0xFFFF) := by
    rw [beq_eq_decide, decide_eq_decide]
    bv_omega
  rw [State.incX, CC.setZ, hz, add_one_eq_ofNat, State.setX, State.setCc]

theorem State.decX_eq (s : State) : s.decX = { s with
    x := BitVec.ofNat 16 (s.x.toNat + 65535), cc := { s.cc with z := decide (s.x.toNat = 1) } } := by
  have hz : (s.x - 1#16 == 0#16) = decide (s.x.toNat = 1) := by
    rw [beq_eq_decide, decide_eq_decide]
    bv_omega
  have hx : s.x - 1#16 = BitVec.ofNat 16 (s.x.toNat + 65535) := sub_one_eq_ofNat s.x
  rw [State.decX, CC.setZ, hz, hx, State.setX, State.setCc]

/-- Settles O36: the equation of each of the four meanings, and the rows of R97. -/
theorem incrementDecrementResult : Obligations.IncrementDecrementResult := by
  refine ⟨fun r s => ?_, fun s => ?_, ?_⟩
  · rw [← State.incAcc_eq, ← State.decAcc_eq]
    cases r with
    | A => exact ⟨exec_inca s, exec_deca s⟩
    | B => exact ⟨exec_incb s, exec_decb s⟩
  · rw [← State.incX_eq, ← State.decX_eq]
    exact ⟨exec_inx s, exec_dex s⟩
  · and_intros <;> rfl

end Sys2Proof.Machine

/-!
Proofs of the family 42_shift_rotate: the shifts and rotates of an accumulator, of a memory byte and of D.

`Shift` (spec/42_shift_rotate.md R180) doubles or halves the operand as a number and adds the bit that enters. Both are
`2^p` times a high part plus a low part below `2^p`: doubled, the entering bit is the low part at `p = 1`; halved, it is
the high part at `p = w - 1`. So each place of the result is read off the binary digits of such a sum, at every width.
-/

namespace Sys2Proof.Machine

open Sys2Proof.Claims Sys2Proof.Laws

/-! Bits of the result (R180). -/

/-- A shift to the left: the bit `b` enters at place 0. -/
theorem getLsbD_double_add {w i : Nat} (hi : i < w) (v : BitVec w) (b : Bool) :
    (BitVec.ofNat w (v.toNat * 2 + b.toNat)).getLsbD i = if i = 0 then b else v.getLsbD (i - 1) := by
  have hdigits := Nat.testBit_two_pow_mul_add v.toNat (show b.toNat < 2 ^ 1 from b.toNat_lt) i
  rw [BitVec.getLsbD_ofNat, Nat.mul_comm, hdigits, decide_eq_true hi, Bool.true_and, Nat.testBit_bool_toNat]
  rcases Nat.eq_zero_or_pos i with rfl | hpos
  · rfl
  · rw [if_neg (by omega), if_neg (by omega)]
    rfl

/-- A shift to the right: the bit `b` enters at the top place. -/
theorem getLsbD_halve_add {w i : Nat} (hi : i < w) (v : BitVec w) (b : Bool) :
    (BitVec.ofNat w (v.toNat / 2 + b.toNat * 2 ^ (w - 1))).getLsbD i = if i = w - 1 then b else v.getLsbD (i + 1) := by
  have hhalf : v.toNat / 2 < 2 ^ (w - 1) := by
    have hpow := Nat.two_pow_pred_mul_two (Nat.zero_lt_of_lt hi)
    omega
  rw [BitVec.getLsbD_ofNat, Nat.add_comm, Nat.mul_comm, Nat.testBit_two_pow_mul_add b.toNat hhalf i,
    decide_eq_true hi, Bool.true_and, Nat.testBit_bool_toNat]
  rcases Nat.lt_or_ge i (w - 1) with hlow | htop
  · rw [if_pos hlow, if_neg (by omega), ← Nat.testBit_succ]
    rfl
  · obtain rfl : i = w - 1 := by omega
    simp

/-- Each place of the result holds the bit that R180 moves there. -/
theorem ShiftKind.getLsbD_result (k : ShiftKind) {w i : Nat} (hi : i < w) (v : BitVec w) (cin : Bool) :
    (k.result w v cin).getLsbD i = shiftBit k w v cin i := by
  cases k with
  | asl | rol => exact getLsbD_double_add hi v _
  | lsr | ror => exact getLsbD_halve_add hi v _
  | asr =>
    refine (getLsbD_halve_add hi v _).trans (ite_congr rfl (fun htop => ?_) fun _ => rfl)
    rw [htop]
    exact v.msb_eq_getLsbD_last

/-- The bit that leaves is the one that R180 puts into `C`. -/
theorem ShiftKind.out_eq_shiftCarry (k : ShiftKind) (w : Nat) (v : BitVec w) : k.out w v = shiftCarry k w v := by
  cases k with
  | asl | rol => exact v.msb_eq_getLsbD_last
  | asr | lsr | ror => rfl

/-- `shiftRes` is the `Shift` of R180 at every width, and `CC.setNzvc` writes its flags. -/
theorem isShift_shiftRes (k : ShiftKind) {w : Nat} (v : BitVec w) (f : CC) :
    IsShift k w v f (shiftRes k w v f.c).r (f.setNzvc (shiftRes k w v f.c)) := by
  refine ⟨fun i hi => k.getLsbD_result hi v f.c, ?_⟩
  rw [← k.out_eq_shiftCarry, nzvc, ← beq_zero_eq_decide_toNat]
  rfl

/-! The instructions (R181 to R197). -/

/-- Settles O37: the law of `Shift` at the accumulator, and the rows of R97. -/
theorem shiftAccumulatorResult : Obligations.ShiftAccumulatorResult := by
  refine ⟨fun k r s => ?_, ?_⟩
  · rw [exec_shiftAcc]
    exact ⟨_, _, rfl, isShift_shiftRes k (s.acc r) s.cc⟩
  · and_intros <;> rfl

/-- The read and the write of the address leave the flags, so those of the result are set on the old ones. -/
theorem State.shiftMem_eq (s : State) (k : ShiftKind) (m : Mem) :
    let res := shiftRes k 8 (s.read8 (m.ea s)).1 s.cc.c
    s.shiftMem k m = ((s.read8 (m.ea s)).2.write8 (m.ea s) res.r).setCc (s.cc.setNzvc res) := by
  simp only [State.shiftMem, State.write8_cc, State.read8_cc]

/-- ASLD and LSRD shift D as one 16-bit pattern (R196, R197). -/
theorem State.shiftD_isShift (s : State) (k : ShiftKind) : ∃ (v : Word) (f : CC),
    s.shiftD k = { s with a := v.extractLsb' 8 8, b := v.extractLsb' 0 8, cc := f } ∧
      IsShift k 16 (s.a ++ s.b) s.cc v f :=
  ⟨_, _, rfl, isShift_shiftRes k s.d s.cc⟩

/-- Settles O38: the law of `Shift` at the byte read and at D, and the rows of R97. -/
theorem shiftMemoryAndDResult : Obligations.ShiftMemoryAndDResult := by
  refine ⟨fun k m i s hi => ?_, fun s => ?_, fun s => ?_, fun ff hhll => ?_, ?_⟩
  · rw [exec_shiftMem s hi, State.shiftMem_eq]
    exact ⟨_, _, rfl, isShift_shiftRes k _ s.cc⟩
  · obtain ⟨v, f, hstate, hshift⟩ := s.shiftD_isShift .asl
    exact ⟨v, f, (exec_asld s).trans (congrArg _ hstate), hshift⟩
  · obtain ⟨v, f, hstate, hshift⟩ := s.shiftD_isShift .lsr
    exact ⟨v, f, (exec_lsrd s).trans (congrArg _ hstate), hshift⟩
  · and_intros <;> rfl
  · and_intros <;> rfl

end Sys2Proof.Machine

/-!
Proofs of the family 43_bit_memory: AIM, OIM, EIM and TIM.

The four differ only in how they combine byte and mask, and TIM in that it does not write (spec/43_bit_memory.md R200). An
access to memory leaves the flags as they were, so those of the result are set on the flags before the instruction.
-/

namespace Sys2Proof.Machine

open Sys2Proof.Claims Sys2Proof.Laws

/-- The flags of a logic operation, a load or a store, as `Claims.logicFlags` writes them (R200, R210). -/
theorem CC.setLogic_eq_logicFlags {w : Nat} (f : CC) (r : BitVec w) : f.setLogic r = logicFlags f r := by
  rw [logicFlags, ← beq_zero_eq_decide_toNat]
  rfl

/-- AIM, OIM, EIM: one read and one write of the address, the flags of the byte written on the old ones (R200). -/
theorem State.updateMem_eq (s : State) (m : Mem) (f : Byte → Byte) :
    s.updateMem m f = ((s.read8 (m.ea s)).2.write8 (m.ea s) (f (s.read8 (m.ea s)).1)).setCc
      (logicFlags s.cc (f (s.read8 (m.ea s)).1)) := by
  simp only [State.updateMem, State.write8_cc, State.read8_cc, CC.setLogic_eq_logicFlags]

/-- TIM: one read of the address, the flags of the byte computed on the old ones, and no write (R200, R204). -/
theorem State.testMem_eq (s : State) (m : Mem) (f : Byte → Byte) :
    s.testMem m f = (s.read8 (m.ea s)).2.setCc (logicFlags s.cc (f (s.read8 (m.ea s)).1)) := by
  simp only [State.testMem, State.read8_cc, CC.setLogic_eq_logicFlags]

/-- Every form of the four mask operations belongs to the extended set (R200). -/
theorem needs_maskMem {o : MaskOp} {ii : Byte} {m : Mem} {i : Instr} (h : maskMem o ii m = some i) : i.needs = .ext := by
  cases o <;> cases m <;> cases h <;> rfl

/-- Settles O39: the equation of each of the two meanings, the capability of every form, and the rows of R97. -/
theorem maskMemoryResult : Obligations.MaskMemoryResult := by
  refine ⟨fun o ii m i s hi => ⟨needs_maskMem hi, ?_⟩, fun ii dd ff => ?_⟩
  · rw [exec_maskMem s hi, State.testMem_eq, State.updateMem_eq]
    split <;> rfl
  · and_intros <;> rfl

end Sys2Proof.Machine

/-!
Proofs of the family 44_load_store: the loads and stores of A, B, D, X and SP.

All of them write the flags of R210 (spec/44_load_store.md), which are those of the mask operations. Reading an operand and
writing memory leave the flags as they were, so `C`, `H` and `I` after the instruction are those from before it. A word is
written by `Write16`, its high byte at the effective address and then its low byte at the next address.
-/

namespace Sys2Proof.Machine

open Sys2Proof.Claims Sys2Proof.Laws

/-- Every form of LDD is present only when `HAS_D` (R215). -/
theorem needs_ldd (src : Src 16) : (ldd src).needs = .accD := by
  cases src with
  | imm v => rfl
  | mem m => cases m <;> rfl

/-- Every form of STD is present only when `HAS_D` (R216). -/
theorem needs_std (m : Mem) : (std m).needs = .accD := by
  cases m <;> rfl

/-- Settles O40: the flags of R210 set on the old ones, the rows of R97, and the capability of LDD. -/
theorem loadResult : Obligations.LoadResult := by
  refine ⟨fun r src s => ?_, fun src s => ?_, fun src s => ?_, fun src s => ?_, ?_, ?_, ?_, ?_, needs_ldd⟩
  · rw [exec_lda, State.loadAcc, CC.setLogic_eq_logicFlags, State.operand8_cc]
  · rw [exec_ldd, State.loadD, CC.setLogic_eq_logicFlags, State.operand16_cc]
    rfl
  · rw [exec_ldx, State.loadX, CC.setLogic_eq_logicFlags, State.operand16_cc]
    rfl
  · rw [exec_lds, State.loadSp, CC.setLogic_eq_logicFlags, State.operand16_cc]
    rfl
  all_goals
    intro v dd ff hhll
    and_intros <;> rfl

/-- Settles O41: the flags of R210 set on the old ones, a word as two bytes, the rows of R97, and the capability of STD. -/
theorem storeResult : Obligations.StoreResult := by
  refine ⟨fun r m s => ?_, fun m s => ?_, fun m s => ?_, ?_, ?_, ?_, ?_, needs_std⟩
  · rw [exec_sta, State.storeAcc, CC.setLogic_eq_logicFlags, State.write8_cc]
  · have hhigh : hiByte s.d = s.a := hiByte_joinBytes s.a s.b
    have hlow : loByte s.d = s.b := loByte_joinBytes s.a s.b
    rw [exec_std, State.storeD, CC.setLogic_eq_logicFlags, State.write16_cc, State.write16, hhigh, hlow]
    rfl
  · rw [exec_stx, State.storeX, CC.setLogic_eq_logicFlags, State.write16_cc]
    rfl
  all_goals
    intro dd ff hhll
    and_intros <;> rfl

end Sys2Proof.Machine

/-!
Proofs of the family 45_control_flow: the branches, the transfers of control, NOP and the condition-code instructions.

A branch is its condition and one jump (spec/45_control_flow.md R230), so each statement about a branch comes down to the
boolean condition `CC.holds`. After a compare `Z` says that the operands are equal, `C` that the first is below the second
unsigned, and `N ≠ V` that it is below signed; each order is a combination of these three. A call is the push of a word
and a jump, a return from it the pull of a word and a jump, and both follow from the laws of the stack (R27).
-/

namespace Sys2Proof.Machine

open Sys2Proof.Claims Sys2Proof.Laws

/-! The branch template (R95, R230). -/

/-- Adding the sign-extended offset is adding it as an integer, modulo 2^16. -/
theorem State.relTarget_eq_target (s : State) (rr : Byte) : s.relTarget rr = target s rr := by
  rw [target, BitVec.ofInt_add, BitVec.ofInt_natCast, BitVec.ofNat_toNat, BitVec.setWidth_eq]
  rfl

theorem exec_branch_taken {k : Cond} {s : State} (h : s.cc.holds k = true) (rr : Byte) :
    exec (branch k rr) s = .next { s with pc := target s rr } := by
  rw [exec_branch, State.branch, if_pos h, State.relTarget_eq_target]
  rfl

theorem exec_branch_not_taken {k : Cond} {s : State} (h : ¬ s.cc.holds k = true) (rr : Byte) :
    exec (branch k rr) s = .next s := by
  rw [exec_branch, State.branch, if_neg h]

/-- Every branch is two bytes and costs three cycles, taken or not (R230). -/
theorem branch_length_cycles (k : Cond) (rr : Byte) : (branch k rr).length = 2 ∧ (branch k rr).cycles = 3 := by
  cases k <;> exact ⟨rfl, rfl⟩

theorem branchIs_of_holds_iff {k : Cond} {opcode : Byte} {cond : CC → Prop}
    (hcond : ∀ f : CC, f.holds k = true ↔ cond f) (hopcode : ∀ rr, (branch k rr).opcode = opcode) :
    BranchIs (branch k) opcode cond := fun rr s =>
  ⟨fun h => exec_branch_taken ((hcond s.cc).mpr h) rr, fun h => exec_branch_not_taken (mt (hcond s.cc).mp h) rr,
    hopcode rr, branch_length_cycles k rr⟩

/-! The conditions on one flag (R235 to R242). -/

theorem CC.holds_cc_iff (f : CC) : f.holds .cc = true ↔ f.c = false := by simp [CC.holds]

theorem CC.holds_cs_iff (f : CC) : f.holds .cs = true ↔ f.c = true := Iff.rfl

theorem CC.holds_ne_iff (f : CC) : f.holds .ne = true ↔ f.z = false := by simp [CC.holds]

theorem CC.holds_eq_iff (f : CC) : f.holds .eq = true ↔ f.z = true := Iff.rfl

theorem CC.holds_vc_iff (f : CC) : f.holds .vc = true ↔ f.v = false := by simp [CC.holds]

theorem CC.holds_vs_iff (f : CC) : f.holds .vs = true ↔ f.v = true := Iff.rfl

theorem CC.holds_pl_iff (f : CC) : f.holds .pl = true ↔ f.n = false := by simp [CC.holds]

theorem CC.holds_mi_iff (f : CC) : f.holds .mi = true ↔ f.n = true := Iff.rfl

/-- Settles O42: the branch template at each condition on one flag, and the rows of R97. -/
theorem branchOnOneFlag : Obligations.BranchOnOneFlag :=
  ⟨fun rr _ => ⟨exec_branch_taken (k := .always) rfl rr, rfl, branch_length_cycles .always rr⟩,
    fun rr _ => ⟨exec_branch_not_taken (k := .never) Bool.false_ne_true rr, rfl, branch_length_cycles .never rr⟩,
    branchIs_of_holds_iff CC.holds_cc_iff fun _ => rfl, branchIs_of_holds_iff CC.holds_cs_iff fun _ => rfl,
    branchIs_of_holds_iff CC.holds_ne_iff fun _ => rfl, branchIs_of_holds_iff CC.holds_eq_iff fun _ => rfl,
    branchIs_of_holds_iff CC.holds_vc_iff fun _ => rfl, branchIs_of_holds_iff CC.holds_vs_iff fun _ => rfl,
    branchIs_of_holds_iff CC.holds_pl_iff fun _ => rfl, branchIs_of_holds_iff CC.holds_mi_iff fun _ => rfl⟩

/-! The conditions on several flags (R233, R234, R243 to R246). -/

theorem CC.holds_hi_iff (f : CC) : f.holds .hi = true ↔ f.c = false ∧ f.z = false := by simp [CC.holds]

theorem CC.holds_ls_iff (f : CC) : f.holds .ls = true ↔ f.c = true ∨ f.z = true := by simp [CC.holds]

theorem CC.holds_ge_iff (f : CC) : f.holds .ge = true ↔ f.n = f.v := by simp [CC.holds]

theorem CC.holds_lt_iff (f : CC) : f.holds .lt = true ↔ f.n ≠ f.v := by simp [CC.holds]

theorem CC.holds_gt_iff (f : CC) : f.holds .gt = true ↔ f.z = false ∧ f.n = f.v := by simp [CC.holds]

theorem CC.holds_le_iff (f : CC) : f.holds .le = true ↔ f.z = true ∨ f.n ≠ f.v := by simp [CC.holds]

/-! The flags of a compare (R151, R161). -/

/-- `Z` says that the operands are equal. -/
theorem CC.setNzvc_subRes_z {w : Nat} (f : CC) (x m : BitVec w) :
    (f.setNzvc (subRes w x m false)).z = decide (x = m) := by
  change ((subRes w x m false).r == 0#w) = _
  rw [subRes_r_no_borrow, beq_eq_decide, decide_eq_decide]
  exact sub_eq_zero

/-- `C` says that the first operand is below the second, unsigned. -/
theorem CC.setNzvc_subRes_c {w : Nat} (f : CC) (x m : BitVec w) :
    (f.setNzvc (subRes w x m false)).c = decide (x.toNat < m.toNat) :=
  subRes_c_eq_borrow w x m false

/-- `N` and `V` agree exactly if the first operand is not below the second, signed: without overflow `N` is the sign of
the difference, and with it the opposite. -/
theorem CC.setNzvc_subRes_n_eq_v {w : Nat} (hw : 0 < w) (f : CC) (x m : BitVec w) :
    (f.setNzvc (subRes w x m false)).n = (f.setNzvc (subRes w x m false)).v ↔ m.toInt ≤ x.toInt := by
  have hx := x.isLt
  have hm := m.isLt
  have hdiff : (x - m).toNat + m.toNat = x.toNat ∨ (x - m).toNat + m.toNat = x.toNat + 2 ^ w ∧ x.toNat < m.toNat := by
    rcases Nat.lt_or_ge x.toNat m.toNat with h | h
    · rw [BitVec.toNat_sub_of_lt h]
      omega
    · rw [BitVec.toNat_sub_of_le h]
      omega
  simp only [CC.setNzvc, subRes_no_borrow, BitVec.toInt_eq_msb_cond, BitVec.msb_eq_decide,
    ← Nat.two_pow_pred_mul_two hw] at *
  generalize 2 ^ (w - 1) = half at *
  simp only [← Bool.decide_and, decide_eq_decide, decide_eq_true_eq, ne_eq]
  split <;> split <;> omega

/-- A branch is taken after a compare as `rel` says if its condition on the flags of a difference says `rel`. -/
theorem takenAfterCompare_of_holds_iff {k : Cond} {rel : Byte → Byte → Prop}
    (hrel : ∀ (f : CC) (x m : Byte), (f.setNzvc (subRes 8 x m false)).holds k = true ↔ rel x m) :
    TakenAfterCompare (branch k) rel := by
  intro r src rr s t h
  rw [exec_cmp] at h
  cases h
  have hcond := hrel (s.operand8 src).2.cc (s.acc r) (s.operand8 src).1
  exact ⟨fun h => exec_branch_taken (hcond.mpr h) rr, fun h => exec_branch_not_taken (mt hcond.mp h) rr⟩

/-! The condition of each branch on the flags of a compare. -/

theorem holds_hi_subRes_iff (f : CC) (x m : Byte) :
    (f.setNzvc (subRes 8 x m false)).holds .hi = true ↔ m.toNat < x.toNat := by
  rw [CC.holds_hi_iff, CC.setNzvc_subRes_c, CC.setNzvc_subRes_z, decide_eq_false_iff_not, decide_eq_false_iff_not,
    ← BitVec.toNat_inj]
  omega

theorem holds_ls_subRes_iff (f : CC) (x m : Byte) :
    (f.setNzvc (subRes 8 x m false)).holds .ls = true ↔ x.toNat ≤ m.toNat := by
  rw [CC.holds_ls_iff, CC.setNzvc_subRes_c, CC.setNzvc_subRes_z, decide_eq_true_iff, decide_eq_true_iff,
    ← BitVec.toNat_inj]
  omega

theorem holds_cc_subRes_iff (f : CC) (x m : Byte) :
    (f.setNzvc (subRes 8 x m false)).holds .cc = true ↔ m.toNat ≤ x.toNat := by
  rw [CC.holds_cc_iff, CC.setNzvc_subRes_c, decide_eq_false_iff_not, Nat.not_lt]

theorem holds_cs_subRes_iff (f : CC) (x m : Byte) :
    (f.setNzvc (subRes 8 x m false)).holds .cs = true ↔ x.toNat < m.toNat := by
  rw [CC.holds_cs_iff, CC.setNzvc_subRes_c, decide_eq_true_iff]

theorem holds_ne_subRes_iff (f : CC) (x m : Byte) :
    (f.setNzvc (subRes 8 x m false)).holds .ne = true ↔ x ≠ m := by
  rw [CC.holds_ne_iff, CC.setNzvc_subRes_z, decide_eq_false_iff_not]

theorem holds_eq_subRes_iff (f : CC) (x m : Byte) :
    (f.setNzvc (subRes 8 x m false)).holds .eq = true ↔ x = m := by
  rw [CC.holds_eq_iff, CC.setNzvc_subRes_z, decide_eq_true_iff]

theorem holds_ge_subRes_iff (f : CC) (x m : Byte) :
    (f.setNzvc (subRes 8 x m false)).holds .ge = true ↔ m.toInt ≤ x.toInt := by
  rw [CC.holds_ge_iff, CC.setNzvc_subRes_n_eq_v (by decide)]

theorem holds_lt_subRes_iff (f : CC) (x m : Byte) :
    (f.setNzvc (subRes 8 x m false)).holds .lt = true ↔ x.toInt < m.toInt := by
  rw [CC.holds_lt_iff, ne_eq, CC.setNzvc_subRes_n_eq_v (by decide), Int.not_le]

theorem holds_gt_subRes_iff (f : CC) (x m : Byte) :
    (f.setNzvc (subRes 8 x m false)).holds .gt = true ↔ m.toInt < x.toInt := by
  rw [CC.holds_gt_iff, CC.setNzvc_subRes_n_eq_v (by decide), CC.setNzvc_subRes_z, decide_eq_false_iff_not,
    ← BitVec.toInt_inj]
  omega

theorem holds_le_subRes_iff (f : CC) (x m : Byte) :
    (f.setNzvc (subRes 8 x m false)).holds .le = true ↔ x.toInt ≤ m.toInt := by
  rw [CC.holds_le_iff, ne_eq, CC.setNzvc_subRes_n_eq_v (by decide), CC.setNzvc_subRes_z, decide_eq_true_iff,
    ← BitVec.toInt_inj]
  omega

/-- Settles O43: the branch template at each condition on several flags, then at each condition on the flags of a
compare. -/
theorem branchOnComparison : Obligations.BranchOnComparison :=
  ⟨branchIs_of_holds_iff CC.holds_hi_iff fun _ => rfl, branchIs_of_holds_iff CC.holds_ls_iff fun _ => rfl,
    branchIs_of_holds_iff CC.holds_ge_iff fun _ => rfl, branchIs_of_holds_iff CC.holds_lt_iff fun _ => rfl,
    branchIs_of_holds_iff CC.holds_gt_iff fun _ => rfl, branchIs_of_holds_iff CC.holds_le_iff fun _ => rfl,
    takenAfterCompare_of_holds_iff holds_hi_subRes_iff, takenAfterCompare_of_holds_iff holds_ls_subRes_iff,
    takenAfterCompare_of_holds_iff holds_cc_subRes_iff, takenAfterCompare_of_holds_iff holds_cs_subRes_iff,
    takenAfterCompare_of_holds_iff holds_ne_subRes_iff, takenAfterCompare_of_holds_iff holds_eq_subRes_iff,
    takenAfterCompare_of_holds_iff holds_ge_subRes_iff, takenAfterCompare_of_holds_iff holds_lt_subRes_iff,
    takenAfterCompare_of_holds_iff holds_gt_subRes_iff, takenAfterCompare_of_holds_iff holds_le_subRes_iff⟩

/-! Calls and returns (R248 to R250). -/

/-- What a call does: the push of the next instruction's address, and the jump. -/
theorem State.call_eq (s : State) (dest : Word) :
    s.call dest = { writeDown s s.sp [loByte s.pc, hiByte s.pc] with sp := s.sp - 2#16, pc := dest } := by
  rw [State.call, State.push16_eq]
  rfl

/-- What a return from a call does: the pull of a word into `PC`. -/
theorem State.returnFromCall_eq (s : State) :
    s.returnFromCall =
      let q := readUp s (s.sp + 1#16) 2
      { q.2 with sp := s.sp + 2#16, pc := joinBytes (q.1.getD 0 0#8) (q.1.getD 1 0#8) } := by
  rw [State.returnFromCall, State.pull16_eq]
  rfl

/-- Settles O44: the jump, the laws of the call and of the return from it, and the rows of R97. -/
theorem transferResult : Obligations.TransferResult := by
  refine ⟨fun m i s h => exec_jmp s h, fun m s => ?_, fun rr s => ?_, fun s => ?_, fun ff hhll => ?_, fun dd ff hhll => ?_,
    fun rr => ?_, ?_⟩
  · rw [exec_jsr, State.call_eq]
  · rw [exec_bsr, State.call_eq, State.relTarget_eq_target]
  · rw [exec_rts, State.returnFromCall_eq]
  all_goals and_intros <;> rfl

/-! The byte image of `CC` (R26). -/

/-- The image is the two bits that read as 1 with the flags appended one by one. -/
theorem CC.toByte_eq_concat (f : CC) :
    f.toByte = ((((((0b11#2).concat f.h).concat f.i).concat f.n).concat f.z).concat f.v).concat f.c := rfl

theorem CC.toByte_toNat (f : CC) :
    f.toByte.toNat = 192 + 32 * f.h.toNat + 16 * f.i.toNat + 8 * f.n.toNat + 4 * f.z.toNat + 2 * f.v.toNat + f.c.toNat := by
  simp only [CC.toByte_eq_concat, BitVec.toNat_concat, BitVec.toNat_ofNat]
  omega

/-- Bits 5 to 0 of a byte come back from the flags, bits 7 and 6 as 1. -/
theorem CC.toByte_ofByte (v : Byte) : (CC.ofByte v).toByte = v ||| 0xC0#8 := by
  apply BitVec.eq_of_getLsbD_eq
  intro i hi
  simp only [CC.toByte_eq_concat, CC.ofByte, BitVec.getLsbD_concat, BitVec.getLsbD_or]
  interval_cases i <;> simp

/-- Settles O46: the image as a number and bit by bit, one equation per instruction, and the rows of R97. -/
theorem conditionCodeInstructions : Obligations.ConditionCodeInstructions := by
  refine ⟨fun f => ?_, CC.toByte_ofByte, fun s => ⟨exec_nop s, exec_tap s, exec_tpa s, exec_clv s, exec_sev s, exec_clc s,
    exec_sec s, exec_cli s, exec_sei s⟩, ?_⟩
  · rw [← CC.toByte_toNat, BitVec.ofNat_toNat, BitVec.setWidth_eq]
  · and_intros <;> rfl

end Sys2Proof.Machine

/-!
Proofs of the family 46_system: the waits, the return from an interrupt, the illegal slots.

The return (spec/46_system.md R272) is seven pulls of a byte, and any number of pulls reads upwards from above `SP`, by
induction on their number, since a read neither sees nor changes `SP`. An illegal slot (R273, R274) is decided by the policy
of the configuration alone: the entry of R376 through `VEC_TRAP`, or nothing; its cost follows the same split.
-/

namespace Sys2Proof.Machine

open Sys2Proof.Claims Sys2Proof.Laws

/-! The waits (R270, R271). -/

/-- Settles O16: each wait is one write of `MODE`, and the rows of R97. -/
theorem waitInstructions : Obligations.WaitInstructions := by
  refine fun s => ⟨exec_wai s, exec_slp s, ?_⟩
  and_intros <;> rfl

/-! The return from an interrupt (R272). -/

theorem readUp_setSp (n : Nat) : ∀ (s : State) (w addr : Word),
    readUp (s.setSp w) addr n = ((readUp s addr n).1, (readUp s addr n).2.setSp w) := by
  induction n with
  | zero => intros; rfl
  | succ n ih => intros; simp only [readUp, State.read8, State.peek_setSp, State.readEffect_setSp, ih]

/-- `n` pulls of a byte one after the other (R27): the bytes in the order of the pulls, and the state after them. -/
def State.pullBytes (s : State) : Nat → List Byte × State
  | 0 => ([], s)
  | n + 1 =>
    let r := s.pull8
    let q := r.2.pullBytes n
    (r.1 :: q.1, q.2)

/-- Pulls read upwards from above `SP`, and leave `SP` at the last byte read. -/
theorem State.pullBytes_eq (n : Nat) : ∀ s : State,
    s.pullBytes n =
      ((readUp s (s.sp + 1#16) n).1, (readUp s (s.sp + 1#16) n).2.setSp (s.sp + BitVec.ofNat 16 n)) := by
  induction n with
  | zero => intro s; simp [State.pullBytes, readUp, State.setSp]
  | succ n ih =>
    intro s
    simp only [State.pullBytes, State.pull8_eq, ih, State.setSp_sp, readUp_setSp, State.setSp_setSp, readUp, State.read8,
      word_add_one_add_ofNat]

/-- The bytes of a return from an interrupt come from seven pulls. -/
theorem State.returnFromInterrupt_eq_pullBytes (s : State) :
    s.returnFromInterrupt =
      let q := s.pullBytes 7
      { q.2 with
        cc := CC.ofByte (q.1.getD 0 0#8), b := q.1.getD 1 0#8, a := q.1.getD 2 0#8
        x := joinBytes (q.1.getD 3 0#8) (q.1.getD 4 0#8), pc := joinBytes (q.1.getD 5 0#8) (q.1.getD 6 0#8) } := by
  simp only [State.returnFromInterrupt, State.pull16, State.pullBytes, List.getD_cons_zero, List.getD_cons_succ]

/-- Settles O47: the law of the return, and the row of R97. -/
theorem rtiResult : Obligations.RtiResult := by
  refine ⟨fun s => ?_, ?_⟩
  · rw [exec_rti, State.returnFromInterrupt_eq_pullBytes, State.pullBytes_eq]
    simp only [State.setSp]
  · and_intros <;> rfl

/-! The illegal slots (R273, R274, R383). -/

theorem State.illegalSlot_of_trap {s : State} (h : s.cfg.illegalPolicy = .trap) :
    s.illegalSlot = entered s s.cfg.vecTrap := by
  rw [State.illegalSlot, h]
  exact s.interruptEntry_eq s.cfg.vecTrap

theorem State.illegalSlot_of_nop {s : State} (h : s.cfg.illegalPolicy = .nop) : s.illegalSlot = s := by
  rw [State.illegalSlot, h]

theorem slotCost_of_trap {c : Config} {op : Byte} {n : Nat} (he : entryOf c op = .illegal n) (h : c.illegalPolicy = .trap) :
    slotCost c op = c.cTrap := by
  simp only [slotCost, he, h]

theorem slotCost_of_nop {c : Config} {op : Byte} {n : Nat} (he : entryOf c op = .illegal n) (h : c.illegalPolicy = .nop) :
    slotCost c op = n := by
  simp only [slotCost, he, h]

/-- Each entry of the table of a configuration that constructs meets R98. -/
theorem Config.entry_wf {c : Config} (hw : c.wf = true) {e : Byte × Entry} (he : e ∈ c.table) : e.2.wf c = true := by
  have htable : c.tableWf = true := (Bool.and_eq_true_iff.mp hw).2
  exact List.all_eq_true.mp htable e he

/-- An illegal entry costs at least one cycle: "never 0" (R98, R273). -/
theorem Entry.ne_illegal_zero_of_wf {c : Config} {e : Entry} (hw : e.wf c = true) : e ≠ .illegal 0 := by
  rintro rfl
  simp [Entry.wf] at hw

/-- Settles O12: an illegal slot and its cost under each policy, the rows of R97, and the costs R5 and R273 allow. -/
theorem illegalSlotTrapsOrDoesNothing : Obligations.IllegalSlotTrapsOrDoesNothing := by
  refine ⟨fun i s hi => ⟨fun htrap => ?_, fun hnop => ?_⟩, ?_, ?_, ?_, rfl, fun c hw => ?_, fun c e hw he => ?_,
    fun c op n he => ⟨slotCost_of_nop he, slotCost_of_trap he⟩⟩
  · rw [exec_illegal s hi, State.illegalSlot_of_trap htrap]
  · rw [exec_illegal s hi, State.illegalSlot_of_nop hnop]
  · and_intros <;> rfl
  · and_intros <;> rfl
  · and_intros <;> rfl
  · obtain ⟨hillegal, _, htrap⟩ := Config.costs_pos hw
    exact ⟨hillegal, htrap⟩
  · exact Entry.ne_illegal_zero_of_wf (Config.entry_wf hw he)

end Sys2Proof.Machine

/-!
Proofs of the family 47_timer: the counter, the flag protocol, the lines.

Every access and event says two things of a flag: whether it is one of the flag's qualifying accesses, and
whether it raises the flag (`TimerOp.run_flag`, `TimerOp.run_armed`). The protocol (spec/47_timer.md R308) is then an
induction over the accesses and events that reads only these two laws; the closed form of the advance (R300) is the same
pair of laws for `n` cycles, by induction on the cycles.
-/

namespace Sys2Proof.Machine

open Sys2Proof.Claims

/-! The flags and their arming under `RaiseFlag`, `ClearIfArmed` and a status read (R294 to R296). -/

theorem TFlag.bit_inj {f g : TFlag} : f.bit = g.bit ↔ f = g := by
  cases f <;> cases g <;> decide

/-- A flag is read from `TCSR` alone: an update of the other fields keeps it. -/
@[simp] theorem Timer.flag_mk (t : Timer) (cnt ocr icr : Word) (tpend chlatch : Byte) (tinLine : Bool) (f : TFlag) :
    (Timer.mk cnt ocr icr t.tcsr tpend chlatch tinLine).flag f = t.flag f := rfl

/-- The arming of a flag is read from `TPEND` alone: an update of the other fields keeps it. -/
@[simp] theorem Timer.armed_mk (t : Timer) (cnt ocr icr : Word) (tcsr chlatch : Byte) (tinLine : Bool) (f : TFlag) :
    (Timer.mk cnt ocr icr tcsr t.tpend chlatch tinLine).armed f = t.armed f := rfl

@[simp] theorem Timer.raiseFlag_flag (t : Timer) (f g : TFlag) :
    (t.raiseFlag f).flag g = (t.flag g || decide (g = f)) := by
  simp [Timer.flag, (t.raiseFlag_bits f g.bit).1, TFlag.bit_inj]

@[simp] theorem Timer.raiseFlag_armed (t : Timer) (f g : TFlag) :
    (t.raiseFlag f).armed g = (t.armed g && !decide (g = f)) := by
  simp [Timer.armed, (t.raiseFlag_bits f g.bit).2, TFlag.bit_inj]

@[simp] theorem Timer.clearIfArmed_flag (t : Timer) (f g : TFlag) :
    (t.clearIfArmed f).flag g = (t.flag g && !(decide (g = f) && t.armed g)) := by
  have hbits := (t.clearIfArmed_bits f g.bit).1
  by_cases h : g = f
  · subst h
    simpa [Timer.flag] using hbits
  · simpa [Timer.flag, TFlag.bit_inj, h] using hbits

@[simp] theorem Timer.clearIfArmed_armed (t : Timer) (f g : TFlag) :
    (t.clearIfArmed f).armed g = (t.armed g && !decide (g = f)) := by
  have hbits := (t.clearIfArmed_bits f g.bit).2
  by_cases h : g = f
  · subst h
    simpa [Timer.armed] using hbits
  · simpa [Timer.armed, TFlag.bit_inj, h] using hbits

theorem getLsbD_tcsrFlags_bit (f : TFlag) : tcsrFlags.getLsbD f.bit = true := by
  cases f <;> rfl

theorem getLsbD_tcsrWritable_bit (f : TFlag) : tcsrWritable.getLsbD f.bit = false := by
  cases f <;> rfl

/-- A status read arms exactly the flags that are set (R295). -/
@[simp] theorem Timer.armFlags_armed (t : Timer) (f : TFlag) : t.armFlags.armed f = t.flag f := by
  simp [Timer.armFlags, Timer.armed, Timer.flag, getLsbD_tcsrFlags_bit]

@[simp] theorem Timer.armFlags_flag (t : Timer) (f : TFlag) : t.armFlags.flag f = t.flag f := rfl

/-- A write of `TCSR` does not reach the flags (R297). -/
@[simp] theorem Timer.writeTcsr_flag (t : Timer) (v : Byte) (f : TFlag) : (t.writeTcsr v).flag f = t.flag f := by
  simp [Timer.writeTcsr, Timer.flag, getLsbD_tcsrFlags_bit, getLsbD_tcsrWritable_bit]

@[simp] theorem Timer.writeTcsr_armed (t : Timer) (v : Byte) (f : TFlag) : (t.writeTcsr v).armed f = t.armed f := rfl

/-! One counted cycle: the counter, what it leaves, and the flags it raises (R300). -/

/-- The flag raised on a condition: each of the two comparisons of a counted cycle. -/
def Timer.raiseIf (t : Timer) (raise : Bool) (f : TFlag) : Timer := bif raise then t.raiseFlag f else t

/-- Whether the next counted cycle raises a flag (R300). -/
def Timer.tickRaises (t : Timer) : TFlag → Bool
  | .icf => false
  | .ocf => t.cnt + 1#16 = t.ocr
  | .tof => t.cnt + 1#16 = 0xFFFF#16

/-- A counted cycle is the increment and then the two comparisons, both with the counter incremented (R300). -/
theorem Timer.tick_eq (t : Timer) :
    t.tick = (({ t with cnt := t.cnt + 1#16 } : Timer).raiseIf (t.tickRaises .ocf) .ocf).raiseIf
      (t.tickRaises .tof) .tof := by
  by_cases hocr : t.cnt + 1#16 = t.ocr <;>
    simp [Timer.tick, Timer.raiseIf, Timer.tickRaises, Timer.raiseFlag, hocr, Bool.cond_eq_ite]

section
variable (t : Timer) (raise : Bool) (f g : TFlag)

@[simp] theorem Timer.raiseIf_cnt : (t.raiseIf raise f).cnt = t.cnt := by cases raise <;> rfl
@[simp] theorem Timer.raiseIf_ocr : (t.raiseIf raise f).ocr = t.ocr := by cases raise <;> rfl
@[simp] theorem Timer.raiseIf_icr : (t.raiseIf raise f).icr = t.icr := by cases raise <;> rfl
@[simp] theorem Timer.raiseIf_chlatch : (t.raiseIf raise f).chlatch = t.chlatch := by cases raise <;> rfl
@[simp] theorem Timer.raiseIf_tinLine : (t.raiseIf raise f).tinLine = t.tinLine := by cases raise <;> rfl

@[simp] theorem Timer.raiseIf_flag : (t.raiseIf raise f).flag g = (t.flag g || (raise && decide (g = f))) := by
  cases raise <;> simp [Timer.raiseIf]

@[simp] theorem Timer.raiseIf_armed : (t.raiseIf raise f).armed g = (t.armed g && !(raise && decide (g = f))) := by
  cases raise <;> simp [Timer.raiseIf]

/-- Raising a flag does not reach the writable bits of `TCSR` (R294). -/
@[simp] theorem Timer.raiseIf_writable : (t.raiseIf raise f).tcsr &&& tcsrWritable = t.tcsr &&& tcsrWritable := by
  have hmask : f.mask &&& tcsrWritable = 0#8 := by cases f <;> rfl
  cases raise with
  | false => rfl
  | true =>
    calc (t.tcsr ||| f.mask) &&& tcsrWritable
      _ = t.tcsr &&& tcsrWritable ||| f.mask &&& tcsrWritable := by grind
      _ = t.tcsr &&& tcsrWritable := by rw [hmask, BitVec.or_zero]

@[simp] theorem Timer.tick_cnt : t.tick.cnt = t.cnt + 1#16 := by simp [Timer.tick_eq]
@[simp] theorem Timer.tick_ocr : t.tick.ocr = t.ocr := by simp [Timer.tick_eq]
@[simp] theorem Timer.tick_icr : t.tick.icr = t.icr := by simp [Timer.tick_eq]
@[simp] theorem Timer.tick_chlatch : t.tick.chlatch = t.chlatch := by simp [Timer.tick_eq]
@[simp] theorem Timer.tick_tinLine : t.tick.tinLine = t.tinLine := by simp [Timer.tick_eq]
@[simp] theorem Timer.tick_writable : t.tick.tcsr &&& tcsrWritable = t.tcsr &&& tcsrWritable := by simp [Timer.tick_eq]

end

theorem Timer.tick_flag (t : Timer) (f : TFlag) : t.tick.flag f = (t.flag f || t.tickRaises f) := by
  cases f <;> simp [Timer.tick_eq, Timer.tickRaises]

theorem Timer.tick_armed (t : Timer) (f : TFlag) : t.tick.armed f = (t.armed f && !t.tickRaises f) := by
  cases f <;> simp [Timer.tick_eq, Timer.tickRaises]

/-- The counter meets a value within `n + 1` cycles in the first of them or in the other `n` (R300). -/
theorem counter_meets_within_succ (target cnt : Word) (n : Nat) :
    decide ((target - cnt - 1#16).toNat < n + 1) =
      (decide (cnt + 1#16 = target) || decide ((target - (cnt + 1#16) - 1#16).toNat < n)) := by
  rw [← Bool.decide_or, decide_eq_decide]
  by_cases h : cnt + 1#16 = target
  · have hzero : target - cnt - 1#16 = 0#16 := by bv_omega
    simp [h, hzero]
  · have hpred : (target - (cnt + 1#16) - 1#16).toNat + 1 = (target - cnt - 1#16).toNat := by bv_omega
    rw [or_iff_right h]
    omega

theorem raisesFlag_advance_zero (t : Timer) (f : TFlag) : raisesFlag t f (.advance 0) = false := by
  cases f <;> simp [raisesFlag]

/-- `n + 1` cycles raise a flag in the first of them or in the other `n` (R300). -/
theorem raisesFlag_advance_succ (t : Timer) (f : TFlag) (n : Nat) :
    raisesFlag t f (.advance (n + 1)) = (t.tickRaises f || raisesFlag t.tick f (.advance n)) := by
  have hmax : ∀ cnt : Word, 0xFFFE#16 - cnt = 0xFFFF#16 - cnt - 1#16 := fun _ => by bv_omega
  cases f with
  | icf => rfl
  | ocf => simp only [raisesFlag, Timer.tickRaises, Timer.tick_ocr, Timer.tick_cnt, counter_meets_within_succ]
  | tof => simp only [raisesFlag, Timer.tickRaises, Timer.tick_cnt, hmax, counter_meets_within_succ]

/-! The advance in closed form, by induction on the cycles (R300). -/

/-- `TimerAdvance` leaves whatever a counted cycle leaves. -/
theorem Timer.advance_keeps {α : Type} (q : Timer → α) (htick : ∀ t, q t.tick = q t) (t : Timer) (n : Nat) :
    q (t.advance n) = q t := by
  induction n generalizing t with
  | zero => rfl
  | succ n ih => exact (ih t.tick).trans (htick t)

theorem Timer.advance_cnt (t : Timer) (n : Nat) : (t.advance n).cnt = t.cnt + BitVec.ofNat 16 n := by
  induction n generalizing t with
  | zero => simp [Timer.advance]
  | succ n ih => rw [Timer.advance, ih, Timer.tick_cnt, word_add_one_add_ofNat]

theorem Timer.advance_flag (t : Timer) (n : Nat) (f : TFlag) :
    (t.advance n).flag f = (t.flag f || raisesFlag t f (.advance n)) := by
  induction n generalizing t with
  | zero => simp [Timer.advance, raisesFlag_advance_zero]
  | succ n ih => rw [Timer.advance, ih, Timer.tick_flag, raisesFlag_advance_succ, Bool.or_assoc]

theorem Timer.advance_armed (t : Timer) (n : Nat) (f : TFlag) :
    (t.advance n).armed f = (t.armed f && !raisesFlag t f (.advance n)) := by
  induction n generalizing t with
  | zero => simp [Timer.advance, raisesFlag_advance_zero]
  | succ n ih => rw [Timer.advance, ih, Timer.tick_armed, raisesFlag_advance_succ, Bool.not_or, Bool.and_assoc]

/-- Settles O52: the laws of the advance for the counter, for each flag, and for what a cycle leaves. -/
theorem timerAdvanceClosedForm : Obligations.TimerAdvanceClosedForm := fun t n =>
  ⟨t.advance_cnt n, t.advance_flag n .ocf, t.advance_flag n .tof, t.advance_armed n .ocf, t.advance_armed n .tof,
    (t.advance_flag n .icf).trans (Bool.or_false _), (t.advance_armed n .icf).trans (Bool.and_true _),
    Timer.advance_keeps (·.tcsr &&& tcsrWritable) Timer.tick_writable t n,
    Timer.advance_keeps (·.ocr) Timer.tick_ocr t n,
    Timer.advance_keeps (·.icr) Timer.tick_icr t n, Timer.advance_keeps (·.chlatch) Timer.tick_chlatch t n,
    Timer.advance_keeps (·.tinLine) Timer.tick_tinLine t n⟩

/-! A change of `TIN` (R305). -/

theorem Timer.setTin_of_edge {t : Timer} {l : Bool} (h : t.captureEdge l = true) :
    t.setTin l = ({ t with tinLine := l, icr := t.cnt } : Timer).raiseFlag .icf := by
  simp [Timer.setTin, h]

theorem Timer.setTin_of_no_edge {t : Timer} {l : Bool} (h : t.captureEdge l = false) :
    t.setTin l = { t with tinLine := l } := by
  simp [Timer.setTin, h]

theorem Timer.setTin_flag (t : Timer) (l : Bool) (f : TFlag) :
    (t.setTin l).flag f = (t.flag f || raisesFlag t f (.setTin l)) := by
  cases h : t.captureEdge l with
  | false => simp [Timer.setTin_of_no_edge h, raisesFlag, h]
  | true => simp [Timer.setTin_of_edge h, raisesFlag, h]

theorem Timer.setTin_armed (t : Timer) (l : Bool) (f : TFlag) :
    (t.setTin l).armed f = (t.armed f && !raisesFlag t f (.setTin l)) := by
  cases h : t.captureEdge l with
  | false => simp [Timer.setTin_of_no_edge h, raisesFlag, h]
  | true => simp [Timer.setTin_of_edge h, raisesFlag, h]

/-! What an access or event does to a flag and its arming. -/

/-- The table of R296 read by the access: of which flag each access is a qualifying one. -/
theorem TimerOp.qualifies_eq (o : TimerOp) (f : TFlag) :
    o.qualifies f = match o with
      | .readCh => decide (f = .tof)
      | .readOcrh | .writeOcrh _ | .writeOcrl _ => decide (f = .ocf)
      | .readIcrh => decide (f = .icf)
      | _ => false := by
  cases o <;> cases f <;> rfl

/-- A qualifying access raises nothing. -/
theorem raisesFlag_of_qualifies {o : TimerOp} {f : TFlag} (h : o.qualifies f = true) (t : Timer) :
    raisesFlag t f o = false := by
  cases o with
  | advance | setTin => simp [TimerOp.qualifies_eq] at h
  | _ => rfl

/-- A flag is set after an access or event if the event raises it, or if it was set and the access is not a qualifying one
that finds it armed (R294 to R300, R305). -/
theorem TimerOp.run_flag (t : Timer) (o : TimerOp) (f : TFlag) :
    (TimerOp.run t o).flag f = (t.flag f && !(o.qualifies f && t.armed f) || raisesFlag t f o) := by
  cases o with
  | readTcsr | writeTcsr | writeCh | writeCl =>
    simp [TimerOp.run, Timer.writeCh, Timer.writeCl, TimerOp.qualifies_eq, raisesFlag]
  | readCh | readOcrh | writeOcrh | writeOcrl | readIcrh =>
    simp [TimerOp.run, Timer.writeOcrh, Timer.writeOcrl, TimerOp.qualifies_eq, raisesFlag]
  | advance | setTin => simp [TimerOp.run, TimerOp.qualifies_eq, Timer.advance_flag, Timer.setTin_flag]

/-- Only a status read arms a flag; a qualifying access of the flag and whatever raises it disarm it (R294 to R296). -/
theorem TimerOp.run_armed (t : Timer) {o : TimerOp} (ho : o ≠ .readTcsr) (f : TFlag) :
    (TimerOp.run t o).armed f = (t.armed f && !o.qualifies f && !raisesFlag t f o) := by
  cases o with
  | readTcsr => exact absurd rfl ho
  | writeTcsr | writeCh | writeCl =>
    simp [TimerOp.run, Timer.writeCh, Timer.writeCl, TimerOp.qualifies_eq, raisesFlag]
  | readCh | readOcrh | writeOcrh | writeOcrl | readIcrh =>
    simp [TimerOp.run, Timer.writeOcrh, Timer.writeOcrl, TimerOp.qualifies_eq, raisesFlag]
  | advance | setTin => simp [TimerOp.run, TimerOp.qualifies_eq, Timer.advance_armed, Timer.setTin_armed]

/-! The protocol, by induction on the accesses and events (R308). -/

theorem runTimer_cons (t : Timer) (o : TimerOp) (ops : List TimerOp) :
    runTimer t (o :: ops) = runTimer (TimerOp.run t o) ops := rfl

theorem runTimer_concat (t : Timer) (ops : List TimerOp) (q : TimerOp) :
    runTimer t (ops ++ [q]) = TimerOp.run (runTimer t ops) q :=
  List.foldl_concat ..

/-- An unarmed flag stays unarmed without a status read. -/
theorem runTimer_unarmed {t : Timer} {f : TFlag} {ops : List TimerOp} (harmed : t.armed f = false)
    (hops : ∀ o ∈ ops, o ≠ .readTcsr) : (runTimer t ops).armed f = false := by
  induction ops generalizing t with
  | nil => exact harmed
  | cons o ops ih =>
    obtain ⟨ho, hops⟩ := List.forall_mem_cons.mp hops
    exact ih (by simp [TimerOp.run_armed t ho, harmed]) hops

/-- An unarmed flag that is set survives everything but a status read. -/
theorem runTimer_flag_of_unarmed {t : Timer} {f : TFlag} {ops : List TimerOp} (hflag : t.flag f = true)
    (harmed : t.armed f = false) (hops : ∀ o ∈ ops, o ≠ .readTcsr) : (runTimer t ops).flag f = true := by
  induction ops generalizing t with
  | nil => exact hflag
  | cons o ops ih =>
    obtain ⟨ho, hops⟩ := List.forall_mem_cons.mp hops
    exact ih (by simp [TimerOp.run_flag, hflag, harmed]) (by simp [TimerOp.run_armed t ho, harmed]) hops

/-- A flag that is set and armed is so after an access or event that neither raises it nor is its own. -/
theorem TimerOp.run_keeps_armed {t : Timer} {o : TimerOp} {f : TFlag} (hflag : t.flag f = true)
    (harmed : t.armed f = true) (hq : o.qualifies f = false) (hr : raisesFlag t f o = false) :
    (TimerOp.run t o).flag f = true ∧ (TimerOp.run t o).armed f = true := by
  refine ⟨by simp [TimerOp.run_flag, hflag, hq], ?_⟩
  by_cases ho : o = .readTcsr
  · subst ho
    exact t.armFlags_armed f ▸ hflag
  · simp [TimerOp.run_armed t ho, harmed, hq, hr]

/-- A flag that is set and armed is so after accesses and events that neither raise it nor are its own. -/
theorem runTimer_keeps_armed {t : Timer} {f : TFlag} {ops : List TimerOp} (hflag : t.flag f = true)
    (harmed : t.armed f = true) (hq : ∀ o ∈ ops, o.qualifies f = false) (hr : NeverRaised f t ops) :
    (runTimer t ops).flag f = true ∧ (runTimer t ops).armed f = true := by
  induction ops generalizing t with
  | nil => exact ⟨hflag, harmed⟩
  | cons o ops ih =>
    obtain ⟨hqo, hq⟩ := List.forall_mem_cons.mp hq
    obtain ⟨hro, hr⟩ := hr
    obtain ⟨hflag', harmed'⟩ := TimerOp.run_keeps_armed hflag harmed hqo hro
    exact ih hflag' harmed' hq hr

/-- Settles O53: what the accesses and events leave of the flag and its arming, then the law of the qualifying access. -/
theorem timerFlagProtocol : Obligations.TimerFlagProtocol := by
  refine fun t f ops => ⟨fun hops => ?_, fun q hq hflag hown hraised => ?_, fun q hq hflag hops => ?_⟩
  · exact runTimer_flag_of_unarmed (by simp) (by simp) hops
  · obtain ⟨-, harmed⟩ := runTimer_keeps_armed (t := t.armFlags) hflag ((t.armFlags_armed f).trans hflag) hown hraised
    rw [runTimer_concat, runTimer_cons, TimerOp.run_flag, raisesFlag_of_qualifies hq]
    simp [TimerOp.run, hq, harmed]
  · have harmed := runTimer_unarmed (t := t.armFlags) ((t.armFlags_armed f).trans hflag) hops
    rw [runTimer_concat, runTimer_cons, TimerOp.run_flag, raisesFlag_of_qualifies hq]
    simp [TimerOp.run, harmed]

/-! Writes of the counter (R298). -/

/-- From the preset 0xFFF8 six cycles do not raise `TOF`, and any more do (R298, R300). -/
theorem raisesFlag_tof_writeCh (t : Timer) (h : Byte) (k : Nat) :
    raisesFlag (t.writeCh h) .tof (.advance k) = decide (6 < k) := by
  have hcycles : (0xFFFE#16 - (t.writeCh h).cnt).toNat = 6 := by simp [Timer.writeCh]
  simp only [raisesFlag, hcycles]

/-- Settles O54: the fields that the two writes assign, then the flags that the advance from the preset raises. -/
theorem counterWritesLoadAndPreset : Obligations.CounterWritesLoadAndPreset := by
  refine fun t h l => ⟨rfl, rfl, rfl, rfl, rfl, ?_, fun k hk => ?_, ?_, fun hocr => ?_⟩
  · rintro u (rfl | rfl) <;> exact ⟨rfl, rfl, rfl, rfl⟩
  · rw [Timer.advance_flag, raisesFlag_tof_writeCh, decide_eq_false (Nat.not_lt.mpr hk), Bool.or_false]
    rfl
  · rw [Timer.advance_flag, raisesFlag_tof_writeCh, decide_eq_true (Nat.lt_succ_self 6), Bool.or_true]
  · simp [Timer.advance_flag, raisesFlag, Timer.writeCh, hocr]

/-! The lines (R305, R375). -/

theorem State.setLine_tin {s : State} (hT : s.cfg.hasTimer = true) (l : Bool) :
    s.setLine .tin l = { s with tim := s.tim.setTin l } := by
  simp [State.setLine, State.setTin, hT]

/-- The edge that `IEDG` selects captures the counter (R305). -/
theorem State.setLine_tin_of_edge {s : State} {l : Bool} (hT : s.cfg.hasTimer = true)
    (hedge : s.tim.captureEdge l = true) :
    s.setLine .tin l = { s with tim := { s.tim with
      tinLine := l, icr := s.tim.cnt, tcsr := s.tim.tcsr ||| 0x80#8, tpend := s.tim.tpend &&& 0x7F#8 } } := by
  rw [State.setLine_tin hT, Timer.setTin_of_edge hedge]
  rfl

/-- A change of `TIN` that is not that edge stores the level alone (R305). -/
theorem State.setLine_tin_of_no_edge {s : State} {l : Bool} (hT : s.cfg.hasTimer = true)
    (hedge : s.tim.captureEdge l = false) :
    s.setLine .tin l = { s with tim := { s.tim with tinLine := l } } := by
  rw [State.setLine_tin hT, Timer.setTin_of_no_edge hedge]

/-- `IRQ` is the source polled when it is high and unmasked and neither `RESET` nor `NMI` is latched (R371, R372). -/
theorem State.poll_irq {s : State} (hirq : s.irqLine = true) (hmask : s.cc.i = false) (hrst : s.rstPend = false)
    (hnmi : s.nmiPend = false) : s.poll = some .irq := by
  simp [State.poll, pollOrder, State.requests, hirq, hmask, hrst, hnmi]

/-- A rising edge of `NMI` sets its latch (R375). -/
theorem State.setLine_nmi_rising {s : State} (h : s.nmiLine = false) :
    s.setLine .nmi true = { s with nmiPend := true, nmiLine := true } := by
  simp [State.setLine, State.setNmi, h]

/-- `NMI` held high sets nothing (R375). -/
theorem State.setLine_nmi_held {s : State} (h : s.nmiLine = true) : s.setLine .nmi true = s := by
  have hpend : (s.nmiPend || (!s.nmiLine && true)) = s.nmiPend := by simp [h]
  rw [State.setLine, State.setNmi, hpend, ← h]

/-- `NMI` low stores the level alone (R375). -/
theorem State.setLine_nmi_low (s : State) : s.setLine .nmi false = { s with nmiLine := false } := by
  simp [State.setLine, State.setNmi]

/-- Settles O55: the two outcomes of a change of `TIN`, then `IRQ` as a level, then `NMI` as a latch of rising edges. -/
theorem lineChangesAndCapture : Obligations.LineChangesAndCapture := by
  refine fun s => ⟨fun l hT => ⟨State.setLine_tin_of_edge hT, State.setLine_tin_of_no_edge hT⟩, fun _ => rfl,
    fun hirq => ?_, State.poll_irq, State.setLine_nmi_rising, State.setLine_nmi_held, ?_, ?_⟩
  · change { s with irqLine := false } = s
    rw [← hirq]
  · rintro _ rfl
    exact s.setLine_nmi_low
  · simp only [State.setLine_nmi_low, State.setLine_nmi_rising]

end Sys2Proof.Machine

/-!
Proofs of the family 30_encoding, decoding and encoding: the round trip, the unspecified slots, and the step that runs what
its bytes decode to.

A row of R97 and the instructions it makes determine each other's bytes: what decodes was encoded (`Slot.Encodes`), the row
at an instruction's opcode byte makes it (`SlotOf.Statement`), and operand bytes are taken the same whatever follows them. A
step fetches as many bytes as its opcode byte gives it, and its table's entry decides the rest.
-/

namespace Sys2Proof

open Sys2Proof.Laws

/-! The round trip (R90, R91, R97). -/

/-- The row of R97 at the opcode byte of an instruction makes it, for each instruction. -/
theorem slotOf_statement : ∀ i : Instr, SlotOf.Statement i
  | .illegal00 => SlotOf.illegal00 | .nop => SlotOf.nop | .illegal02 => SlotOf.illegal02
  | .illegal03 => SlotOf.illegal03 | .lsrd => SlotOf.lsrd | .asld => SlotOf.asld | .tap => SlotOf.tap
  | .tpa => SlotOf.tpa | .inx => SlotOf.inx | .dex => SlotOf.dex | .clv => SlotOf.clv | .sev => SlotOf.sev
  | .clc => SlotOf.clc | .sec => SlotOf.sec | .cli => SlotOf.cli | .sei => SlotOf.sei | .daa => SlotOf.daa
  | .slp => SlotOf.slp | .bra rr => SlotOf.bra rr | .brn rr => SlotOf.brn rr | .bhi rr => SlotOf.bhi rr
  | .bls rr => SlotOf.bls rr | .bcc rr => SlotOf.bcc rr | .bcs rr => SlotOf.bcs rr | .bne rr => SlotOf.bne rr
  | .beq rr => SlotOf.beq rr | .bvc rr => SlotOf.bvc rr | .bvs rr => SlotOf.bvs rr | .bpl rr => SlotOf.bpl rr
  | .bmi rr => SlotOf.bmi rr | .bge rr => SlotOf.bge rr | .blt rr => SlotOf.blt rr | .bgt rr => SlotOf.bgt rr
  | .ble rr => SlotOf.ble rr | .rts => SlotOf.rts | .rti => SlotOf.rti | .mul => SlotOf.mul | .wai => SlotOf.wai
  | .lsra => SlotOf.lsra | .rora => SlotOf.rora | .asra => SlotOf.asra | .asla => SlotOf.asla | .rola => SlotOf.rola
  | .deca => SlotOf.deca | .inca => SlotOf.inca | .lsrb => SlotOf.lsrb | .rorb => SlotOf.rorb | .asrb => SlotOf.asrb
  | .aslb => SlotOf.aslb | .rolb => SlotOf.rolb | .decb => SlotOf.decb | .incb => SlotOf.incb
  | .aimIdx ii ff => SlotOf.aimIdx ii ff | .oimIdx ii ff => SlotOf.oimIdx ii ff | .lsrIdx ff => SlotOf.lsrIdx ff
  | .eimIdx ii ff => SlotOf.eimIdx ii ff | .rorIdx ff => SlotOf.rorIdx ff | .asrIdx ff => SlotOf.asrIdx ff
  | .aslIdx ff => SlotOf.aslIdx ff | .rolIdx ff => SlotOf.rolIdx ff | .timIdx ii ff => SlotOf.timIdx ii ff
  | .jmpIdx ff => SlotOf.jmpIdx ff | .aimDir ii dd => SlotOf.aimDir ii dd | .oimDir ii dd => SlotOf.oimDir ii dd
  | .lsrExt hhll => SlotOf.lsrExt hhll | .eimDir ii dd => SlotOf.eimDir ii dd | .rorExt hhll => SlotOf.rorExt hhll
  | .asrExt hhll => SlotOf.asrExt hhll | .aslExt hhll => SlotOf.aslExt hhll | .rolExt hhll => SlotOf.rolExt hhll
  | .timDir ii dd => SlotOf.timDir ii dd | .jmpExt hhll => SlotOf.jmpExt hhll | .subaImm ii => SlotOf.subaImm ii
  | .cmpaImm ii => SlotOf.cmpaImm ii | .sbcaImm ii => SlotOf.sbcaImm ii | .subdImm jjkk => SlotOf.subdImm jjkk
  | .ldaaImm ii => SlotOf.ldaaImm ii | .adcaImm ii => SlotOf.adcaImm ii | .addaImm ii => SlotOf.addaImm ii
  | .bsr rr => SlotOf.bsr rr | .ldsImm jjkk => SlotOf.ldsImm jjkk | .subaDir dd => SlotOf.subaDir dd
  | .cmpaDir dd => SlotOf.cmpaDir dd | .sbcaDir dd => SlotOf.sbcaDir dd | .subdDir dd => SlotOf.subdDir dd
  | .ldaaDir dd => SlotOf.ldaaDir dd | .staaDir dd => SlotOf.staaDir dd | .adcaDir dd => SlotOf.adcaDir dd
  | .addaDir dd => SlotOf.addaDir dd | .jsrDir dd => SlotOf.jsrDir dd | .ldsDir dd => SlotOf.ldsDir dd
  | .subaIdx ff => SlotOf.subaIdx ff | .cmpaIdx ff => SlotOf.cmpaIdx ff | .sbcaIdx ff => SlotOf.sbcaIdx ff
  | .subdIdx ff => SlotOf.subdIdx ff | .ldaaIdx ff => SlotOf.ldaaIdx ff | .staaIdx ff => SlotOf.staaIdx ff
  | .adcaIdx ff => SlotOf.adcaIdx ff | .addaIdx ff => SlotOf.addaIdx ff | .jsrIdx ff => SlotOf.jsrIdx ff
  | .ldsIdx ff => SlotOf.ldsIdx ff | .subaExt hhll => SlotOf.subaExt hhll | .cmpaExt hhll => SlotOf.cmpaExt hhll
  | .sbcaExt hhll => SlotOf.sbcaExt hhll | .subdExt hhll => SlotOf.subdExt hhll
  | .ldaaExt hhll => SlotOf.ldaaExt hhll | .staaExt hhll => SlotOf.staaExt hhll
  | .adcaExt hhll => SlotOf.adcaExt hhll | .addaExt hhll => SlotOf.addaExt hhll | .jsrExt hhll => SlotOf.jsrExt hhll
  | .ldsExt hhll => SlotOf.ldsExt hhll | .subbImm ii => SlotOf.subbImm ii | .cmpbImm ii => SlotOf.cmpbImm ii
  | .sbcbImm ii => SlotOf.sbcbImm ii | .adddImm jjkk => SlotOf.adddImm jjkk | .ldabImm ii => SlotOf.ldabImm ii
  | .adcbImm ii => SlotOf.adcbImm ii | .addbImm ii => SlotOf.addbImm ii | .lddImm jjkk => SlotOf.lddImm jjkk
  | .ldxImm jjkk => SlotOf.ldxImm jjkk | .subbDir dd => SlotOf.subbDir dd | .cmpbDir dd => SlotOf.cmpbDir dd
  | .sbcbDir dd => SlotOf.sbcbDir dd | .adddDir dd => SlotOf.adddDir dd | .ldabDir dd => SlotOf.ldabDir dd
  | .stabDir dd => SlotOf.stabDir dd | .adcbDir dd => SlotOf.adcbDir dd | .addbDir dd => SlotOf.addbDir dd
  | .lddDir dd => SlotOf.lddDir dd | .stdDir dd => SlotOf.stdDir dd | .ldxDir dd => SlotOf.ldxDir dd
  | .stxDir dd => SlotOf.stxDir dd | .subbIdx ff => SlotOf.subbIdx ff | .cmpbIdx ff => SlotOf.cmpbIdx ff
  | .sbcbIdx ff => SlotOf.sbcbIdx ff | .adddIdx ff => SlotOf.adddIdx ff | .ldabIdx ff => SlotOf.ldabIdx ff
  | .stabIdx ff => SlotOf.stabIdx ff | .adcbIdx ff => SlotOf.adcbIdx ff | .addbIdx ff => SlotOf.addbIdx ff
  | .lddIdx ff => SlotOf.lddIdx ff | .stdIdx ff => SlotOf.stdIdx ff | .ldxIdx ff => SlotOf.ldxIdx ff
  | .stxIdx ff => SlotOf.stxIdx ff | .subbExt hhll => SlotOf.subbExt hhll | .cmpbExt hhll => SlotOf.cmpbExt hhll
  | .sbcbExt hhll => SlotOf.sbcbExt hhll | .adddExt hhll => SlotOf.adddExt hhll
  | .ldabExt hhll => SlotOf.ldabExt hhll | .stabExt hhll => SlotOf.stabExt hhll
  | .adcbExt hhll => SlotOf.adcbExt hhll | .addbExt hhll => SlotOf.addbExt hhll | .lddExt hhll => SlotOf.lddExt hhll
  | .stdExt hhll => SlotOf.stdExt hhll | .ldxExt hhll => SlotOf.ldxExt hhll | .stxExt hhll => SlotOf.stxExt hhll

/-- A slot takes its operand bytes from the front: bytes that follow are left (R91). -/
theorem Slot.operands_append {s : Slot} {bs tail : List Byte} {i : Instr} (h : s.operands bs = some (i, tail))
    (rest : List Byte) : s.operands (bs ++ rest) = some (i, tail ++ rest) := by
  unfold Slot.operands at h
  split at h <;> cases h <;> rfl

/-- The row at the opcode byte of an instruction, the instruction's bytes, and what the row makes of them. -/
theorem exists_row_encode (i : Instr) : ∃ r operands, rowOf i.opcode = some r ∧ encode i = i.opcode :: operands ∧
    operands.length + 1 = r.slot.length ∧ ∀ rest, r.slot.operands (operands ++ rest) = some (i, rest) := by
  obtain ⟨r, hrow, hmakes, -⟩ := slotOf_statement i
  obtain ⟨operands, hencode, -, hlength⟩ := (rowOf_encodes hrow).operands_eq_some hmakes
  rw [hencode, List.tail_cons] at hmakes
  exact ⟨r, operands, hrow, hencode, hlength, fun rest => by simpa using Slot.operands_append hmakes rest⟩

theorem Instr.length_pos (i : Instr) : 0 < i.length := by
  obtain ⟨r, operands, -, hencode, -⟩ := exists_row_encode i
  simp [Instr.length, hencode]

/-- Settles O1: the row at the opcode byte makes the instruction of its operand bytes and leaves the bytes after them. -/
theorem decodeEncodeAgree : Obligations.DecodeEncodeAgree := by
  intro i rest
  obtain ⟨r, operands, hrow, hencode, -, hmakes⟩ := exists_row_encode i
  simp only [hencode, List.cons_append, decode, hrow, hmakes]

/-- Settles O2: the row that decodes the bytes writes its instruction with them. -/
theorem decodeReadsOnlyEncodings : Obligations.DecodeReadsOnlyEncodings := by
  intro bs i rest h
  cases bs with
  | nil => cases h
  | cons op bs =>
    obtain ⟨r, hrow, hoperands⟩ := decode_cons_eq_ok h
    obtain ⟨operands, hencode, rfl, -⟩ := (rowOf_encodes hrow).operands_eq_some hoperands
    rw [hencode, List.cons_append]

/-- Settles O4: each word by evaluation of the decoder. -/
theorem writtenWordsDecode : Obligations.WrittenWordsDecode := by
  unfold Obligations.WrittenWordsDecode
  and_intros <;> rfl

/-! What a slot needs of the configuration (R5, R6). -/

/-- The capability of the instructions that a slot makes. -/
def Slot.needs : Slot → Capability
  | .illegal i | .inh i => i.needs
  | .imm8 f | .dir f | .idx f | .rel f => (f 0#8).needs
  | .imm16 f | .ext f => (f 0#16).needs
  | .imd f | .imx f => (f 0#8 0#8).needs

/-- Whatever the operand bytes, the instruction that a slot makes needs the same; an illegal one needs nothing. -/
def Slot.NeedsAlike : Slot → Prop
  | .illegal i => i.needs = .base
  | .inh _ => True
  | .imm8 f | .dir f | .idx f | .rel f => ∀ v, (f v).needs = (f 0#8).needs
  | .imm16 f | .ext f => ∀ w, (f w).needs = (f 0#16).needs
  | .imd f | .imx f => ∀ m v, (f m v).needs = (f 0#8 0#8).needs

/-- The capability that an instruction depends on is its row's: one equation of `Instr.needs` a row. -/
theorem dispatchTable_needsAlike : ∀ r ∈ dispatchTable, r.slot.NeedsAlike := by
  simp only [dispatchTable, List.forall_mem_append, tableRow0, tableRow1, tableRow2, tableRow3, tableRow4, tableRow5,
    tableRow6, tableRow7, tableRow8, tableRow9, tableRowA, tableRowB, tableRowC, tableRowD, tableRowE, tableRowF,
    List.forall_mem_cons, List.not_mem_nil, false_imp_iff, implies_true, and_true, Slot.NeedsAlike]
  and_intros <;> intros <;> trivial

theorem Slot.NeedsAlike.needs_eq {s : Slot} (hs : s.NeedsAlike) {bs rest : List Byte} {i : Instr}
    (h : s.operands bs = some (i, rest)) : i.needs = s.needs := by
  unfold Slot.operands at h
  split at h <;> cases h
  case h_1 | h_2 => rfl
  case h_3 | h_4 | h_5 | h_6 | h_7 | h_8 => exact hs _
  case h_9 | h_10 => exact hs _ _

theorem Slot.NeedsAlike.needs_of_illegal {s : Slot} (hs : s.NeedsAlike) (h : s.isIllegal = true) : s.needs = .base := by
  cases s with
  | illegal i => exact hs
  | _ => cases h

theorem rowOf_needsAlike {op : Byte} {r : Row} (h : rowOf op = some r) : r.slot.NeedsAlike :=
  dispatchTable_needsAlike r (List.mem_of_find?_eq_some h)

/-- Two bytes are enough for the operands of any slot. -/
theorem Slot.operands_two (s : Slot) (m v : Byte) : ∃ p, s.operands [m, v] = some p := by
  cases s <;> exact ⟨_, rfl⟩

/-- The operation at an opcode byte of R97 needs what its row needs. -/
theorem operationAt_of_rowOf {op : Byte} {r : Row} (h : rowOf op = some r) :
    ∃ j, operationAt op = some j ∧ j.needs = r.slot.needs := by
  obtain ⟨p, hp⟩ := r.slot.operands_two 0x00#8 0x00#8
  exact ⟨p.1, by simp only [operationAt, decode, h, hp], (rowOf_needsAlike h).needs_eq hp⟩

theorem hasOperation_of_rowOf {op : Byte} {r : Row} (c : Config) (h : rowOf op = some r) :
    c.hasOperation op = (!r.slot.isIllegal && c.provides r.slot.needs) := by
  obtain ⟨j, hj, hneeds⟩ := operationAt_of_rowOf h
  simp only [Config.hasOperation, h, hj, Instr.wf, hneeds]

/-- An instruction needs what the row at its opcode byte needs. -/
theorem Instr.needs_of_rowOf {i : Instr} {r : Row} (h : rowOf i.opcode = some r) : i.needs = r.slot.needs := by
  obtain ⟨r', operands, hrow, -, -, hmakes⟩ := exists_row_encode i
  obtain rfl : r' = r := Option.some.inj (hrow.symm.trans h)
  exact (rowOf_needsAlike h).needs_eq (hmakes [])

end Sys2Proof

namespace Sys2Proof.Machine

open Sys2Proof.Claims

/-! The entry of the reference table (R97, R98). -/

theorem entryOf_of_table_nil {c : Config} (h : c.table = []) (op : Byte) : entryOf c op = referenceEntry c op := by
  simp [entryOf, h]

theorem entryOf_of_no_row {c : Config} (h : c.table = []) {op : Byte} (hrow : rowOf op = none) :
    entryOf c op = .unspecified := by
  rw [entryOf_of_table_nil h, referenceEntry, hrow]

/-- What the reference table holds for the opcode byte of an instruction (R6, R97; log 12). -/
theorem entryOf_opcode {c : Config} (h : c.table = []) {i : Instr} {r : Row} (hrow : rowOf i.opcode = some r) :
    entryOf c i.opcode =
      if r.slot.isIllegal then .illegal c.cIllegal else if i.wf c then .op i.opcode r.cycles else .unspecified := by
  rw [entryOf_of_table_nil h, referenceEntry, hrow]
  cases hill : r.slot.isIllegal <;> simp [hill, hasOperation_of_rowOf c hrow, Instr.wf, Instr.needs_of_rowOf hrow]

/-- A slot whose operation the capability record leaves out is unspecified (log 12). -/
theorem entryOf_of_not_wf {c : Config} {i : Instr} (h : c.table = []) (hwf : i.wf c = false) :
    entryOf c i.opcode = .unspecified := by
  obtain ⟨r, -, hrow, -⟩ := exists_row_encode i
  have hlegal : r.slot.isIllegal = false := by
    by_contra hill
    have hbase := (rowOf_needsAlike hrow).needs_of_illegal (Bool.not_eq_false _ ▸ hill)
    simp [Instr.wf, Instr.needs_of_rowOf hrow, hbase, Config.provides] at hwf
  simp [entryOf_opcode h hrow, hlegal, hwf]

/-! The fetch of an instruction outside the window (R90, R92, R124). -/

/-- The fetch of the operand bytes, from the state after the opcode fetch. -/
theorem State.fetchMany_operands {s : State} {m : Nat} (h : Unclaimed s.cfg s.pc (m + 1)) :
    ((s.readEffect s.pc).setPc (s.pc + 1#16)).fetchMany m =
      .ok ((readUp s s.pc (m + 1)).1.tail, (readUp s s.pc (m + 1)).2.setPc (s.pc + BitVec.ofNat 16 (m + 1))) := by
  have hoperands := State.fetchMany_unclaimed m ((s.readEffect s.pc).setPc (s.pc + 1#16)) fun k hk => by
    rw [State.setPc_pc, State.setPc_cfg, State.readEffect_cfg, word_add_one_add_ofNat]
    exact h (k + 1) (Nat.succ_lt_succ hk)
  simp only [State.setPc_pc, readUp_setPc, word_add_one_add_ofNat] at hoperands
  exact hoperands

/-- A fetch of `n` bytes outside the window gives the instruction that the table makes of them. -/
theorem State.fetch_eq_ok {s : State} {n : Nat} {i : Instr} (hn : slotLength s.cfg (s.peek s.pc) = n)
    (h : Unclaimed s.cfg s.pc n) (hi : dispatch s.cfg (s.peek s.pc) (readUp s s.pc n).1.tail = some i) :
    s.fetch = .ok (s.peek s.pc, i, (readUp s s.pc n).2.setPc (s.pc + BitVec.ofNat 16 n)) := by
  obtain ⟨m, rfl⟩ : ∃ m, n = m + 1 := Nat.exists_eq_add_one_of_ne_zero (hn ▸ (slotLength_pos _ _).ne')
  have hpc : windowReg s.cfg s.pc = none := by simpa using h 0 m.succ_pos
  simp only [State.fetch, State.fetch8_unclaimed hpc, State.read8, hn, Nat.add_sub_cancel, State.fetchMany_operands h, hi]

/-- A fetch of a byte for which the table has no instruction is refused with the state after it (R275). -/
theorem State.fetch_eq_unspecified {s : State} (hpc : windowReg s.cfg s.pc = none)
    (he : entryOf s.cfg (s.peek s.pc) = .unspecified) :
    s.fetch = .error (.unspecifiedSlot (s.peek s.pc) ((s.readEffect s.pc).setPc (s.pc + 1#16))) := by
  simp only [State.fetch, State.fetch8_unclaimed hpc, State.read8, slotLength, he, Nat.sub_self, State.fetchMany, dispatch]

/-- A step whose fetch gives an instruction runs it and charges its slot's cost (R121 to R127). -/
theorem step_of_fetch {s t u : State} {op : Byte} {i : Instr} (hwf : s.cfg.wf = true) (hpoll : s.poll = none)
    (hmode : s.mode = .run) (hfetch : s.fetch = .ok (op, i, t)) (hexec : exec i t = .next u) :
    step s = .next (u.account (slotCost s.cfg op)) := by
  rw [step_eq_runInstruction hwf hpoll hmode, State.runInstruction, hfetch]
  simp only [hexec]

/-- An `op` entry: its operation on the bytes after the opcode byte, at the entry's cost (R98, R127). -/
theorem step_of_op_entry {s t : State} {slot : Byte} {n : Nat} {i : Instr} (hwf : s.cfg.wf = true)
    (hpoll : s.poll = none) (hmode : s.mode = .run) (he : entryOf s.cfg (s.peek s.pc) = .op slot n)
    (hunclaimed : Unclaimed s.cfg s.pc i.length)
    (hdecode : decode (slot :: (readUp s s.pc i.length).1.tail) = .ok (i, []))
    (hexec : exec i ((readUp s s.pc i.length).2.setPc (s.pc + BitVec.ofNat 16 i.length)) = .next t) :
    step s = .next (t.account n) := by
  have hlength : slotLength s.cfg (s.peek s.pc) = i.length := by
    simp [slotLength, he, (lengthOf_of_decode hdecode).1]
  have hdispatch : dispatch s.cfg (s.peek s.pc) (readUp s s.pc i.length).1.tail = some i := by
    simp only [dispatch, he, hdecode]
  simpa [slotCost, he] using step_of_fetch hwf hpoll hmode (State.fetch_eq_ok hlength hunclaimed hdispatch) hexec

theorem unclaimed_one {c : Config} {a : Word} (h : windowReg c a = none) : Unclaimed c a 1 := fun k hk => by
  obtain rfl : k = 0 := by omega
  simpa using h

/-- An `illegal` entry: the slot's meaning after the opcode fetch, at the cost that the policy gives (R273, R274). -/
theorem step_of_illegal_entry {s : State} {n : Nat} (hwf : s.cfg.wf = true) (hpoll : s.poll = none)
    (hmode : s.mode = .run) (hpc : windowReg s.cfg s.pc = none) (he : entryOf s.cfg (s.peek s.pc) = .illegal n) :
    step s = .next (((s.readEffect s.pc).setPc (s.pc + 1#16)).illegalSlot.account (slotCost s.cfg (s.peek s.pc))) := by
  have hfetch := State.fetch_eq_ok (n := 1) (i := illegalAt (s.peek s.pc)) (by simp [slotLength, he]) (unclaimed_one hpc)
    (by simp only [dispatch, he])
  exact step_of_fetch hwf hpoll hmode hfetch (exec_illegalAt _ _)

/-- An `unspecified` entry is refused with the state after the opcode fetch (R275). -/
theorem step_of_unspecified_entry {s : State} (hwf : s.cfg.wf = true) (hpoll : s.poll = none) (hmode : s.mode = .run)
    (hpc : windowReg s.cfg s.pc = none) (he : entryOf s.cfg (s.peek s.pc) = .unspecified) :
    step s = .refused (.unspecifiedSlot (s.peek s.pc) ((s.readEffect s.pc).setPc (s.pc + 1#16))) := by
  rw [step_eq_runInstruction hwf hpoll hmode, State.runInstruction, State.fetch_eq_unspecified hpc he]

/-- An `illegal` entry's cost is charged. -/
theorem charged_of_illegal_entry {c : Config} {op : Byte} {n : Nat} (hwf : c.wf = true) (he : entryOf c op = .illegal n)
    (t : State) : Charged t (t.account (slotCost c op)) (slotCost c op) :=
  State.account_charged t (slotCost_pos (operands := []) (i := illegalAt op) hwf (by simp only [dispatch, he]))

/-- Settles O7: the step for each kind of entry, and the accounting of its cost. -/
theorem stepFollowsDispatchTable : Obligations.StepFollowsDispatchTable := by
  refine fun s hwf hpoll hmode hpc => ⟨fun slot n i t he hunclaimed hdecode hexec => ?_, fun n he => ?_,
    step_of_unspecified_entry hwf hpoll hmode hpc⟩
  · exact ⟨_, step_of_op_entry hwf hpoll hmode he hunclaimed hdecode hexec,
      State.account_charged t ((entryOf_cost hwf _).1 slot n he).1⟩
  · have hcharged := charged_of_illegal_entry hwf he ((s.readEffect s.pc).setPc (s.pc + 1#16)).illegalSlot
    refine ⟨_, step_of_illegal_entry hwf hpoll hmode hpc he, fun hnop => ?_, fun htrap => ?_⟩
    · rw [slotCost_of_nop he hnop, State.illegalSlot_of_nop (by simpa using hnop)] at *
      exact hcharged
    · rw [slotCost_of_trap he htrap, State.illegalSlot_of_trap (by simpa using htrap)] at *
      simpa using hcharged

/-- Settles O5: the slots of R97 counted, the refusal of an entry that is unspecified, and the slots left out. -/
theorem unspecifiedSlotsAreRefused : Obligations.UnspecifiedSlotsAreRefused := by
  refine ⟨by decide +kernel, by decide +kernel, fun s hwf htable hpoll hmode hpc hrow => ?_,
    fun c i htable => entryOf_of_not_wf htable, fun _ => rfl, fun _ => rfl⟩
  exact step_of_unspecified_entry hwf hpoll hmode hpc (entryOf_of_no_row htable hrow)

/-! The step with the reference table (R97, R127). -/

/-- The illegal rows of R97 hold the instruction of their own slot (R273). -/
theorem dispatchTable_illegal : ∀ r ∈ dispatchTable, r.slot.isIllegal = true →
    r.slot = .illegal (illegalAt (BitVec.ofNat 8 r.opcode)) := by
  simp only [dispatchTable, List.forall_mem_append, tableRow0, tableRow1, tableRow2, tableRow3, tableRow4, tableRow5,
    tableRow6, tableRow7, tableRow8, tableRow9, tableRowA, tableRowB, tableRowC, tableRowD, tableRowE, tableRowF,
    List.forall_mem_cons, List.not_mem_nil, Slot.isIllegal, Bool.false_eq_true, false_imp_iff, implies_true, and_true,
    true_and, true_imp_iff]
  and_intros <;> rfl

/-- An instruction of an illegal row is one byte, and is the one of its slot (R273). -/
theorem Instr.eq_illegalAt {i : Instr} {r : Row} (hrow : rowOf i.opcode = some r) (hill : r.slot.isIllegal = true) :
    i = illegalAt i.opcode ∧ i.length = 1 := by
  obtain ⟨r', operands, hrow', hencode, hlength, hmakes⟩ := exists_row_encode i
  obtain rfl : r' = r := Option.some.inj (hrow'.symm.trans hrow)
  have hop : r'.opcode = i.opcode.toNat := by simpa using List.find?_some hrow
  have hslot := dispatchTable_illegal r' (List.mem_of_find?_eq_some hrow) hill
  rw [hop, BitVec.ofNat_toNat, BitVec.setWidth_eq] at hslot
  rw [hslot] at hlength hmakes
  obtain ⟨hi, -⟩ := Prod.mk.inj (Option.some.inj (hmakes []))
  exact ⟨hi.symm, by rw [Instr.length, hencode, List.length_cons, hlength, Slot.length]⟩

/-- The first of the bytes that decode is the opcode byte of the instruction. -/
theorem readUp_of_decode {s : State} {a : Word} {i : Instr} (h : decode (readUp s a i.length).1 = .ok (i, [])) :
    i.opcode = s.peek a ∧ (readUp s a i.length).1 = i.opcode :: (readUp s a i.length).1.tail := by
  obtain ⟨m, hm⟩ := Nat.exists_eq_add_one_of_ne_zero i.length_pos.ne'
  rw [hm] at h ⊢
  have hopcode : i.opcode = s.peek a := (lengthOf_of_decode h).2.1
  exact ⟨hopcode, by rw [hopcode]; rfl⟩

/-- Settles O6: the reference table's entry at the opcode byte is the instruction's own row, illegal or not. -/
theorem stepRunsDecodedInstruction : Obligations.StepRunsDecodedInstruction := by
  intro s t i hwf htable hi hpoll hmode hunclaimed hdecode hexec
  obtain ⟨r, -, hrow, -⟩ := exists_row_encode i
  obtain ⟨hopcode, hbytes⟩ := readUp_of_decode hdecode
  have hentry := entryOf_opcode htable hrow
  rw [hbytes] at hdecode
  rw [hopcode] at hrow hentry hdecode
  simp only [Instr.cycles, hopcode, hrow, Option.any_some]
  cases hill : r.slot.isIllegal with
  | false =>
    simp only [hill, hi, Bool.false_eq_true, if_false, if_true] at hentry
    refine ⟨_, step_of_op_entry hwf hpoll hmode hentry hunclaimed hdecode hexec, fun _ => ?_, nofun, nofun⟩
    exact State.account_charged t ((entryOf_cost hwf _).1 _ _ hentry).1
  | true =>
    simp only [hill, if_true] at hentry
    obtain ⟨hat, hlength⟩ := Instr.eq_illegalAt (hopcode ▸ hrow) hill
    have hpc : windowReg s.cfg s.pc = none := by simpa using hunclaimed 0 i.length_pos
    rw [hlength, hat, exec_illegalAt] at hexec
    cases hexec
    have hcharged := charged_of_illegal_entry hwf hentry ((s.readEffect s.pc).setPc (s.pc + 1#16)).illegalSlot
    exact ⟨_, step_of_illegal_entry hwf hpoll hmode hpc hentry, nofun, fun _ h => slotCost_of_nop hentry h ▸ hcharged,
      fun _ h => slotCost_of_trap hentry h ▸ hcharged⟩

end Sys2Proof.Machine

/-!
Proofs of the family 20_memory, the cells and the side effects of reads.

What stands behind an address outside the window is one of four (spec/20_memory.md R61), and a read sees the cells only
where `readCell` names one. A read changes the state only at the registers whose read clears or arms something (R66, R70),
or at a device.
-/

namespace Sys2Proof.Machine

/-! The cell that a read returns (R61, R62). -/

theorem readCell_eq_some_iff (c : Config) (addr cell : Word) :
    readCell c addr = some cell ↔ windowReg c addr = none ∧ (c.backing addr = .ram cell ∨ c.backing addr = .rom cell) := by
  unfold readCell
  cases windowReg c addr <;> cases c.backing addr <;> simp

theorem readCell_plain {c : Config} {addr : Word} (h : plainAddr c addr = true) : readCell c addr = some addr := by
  obtain ⟨hwindow, hram⟩ := (plainAddr_iff c addr).mp h
  exact (readCell_eq_some_iff c addr addr).mpr ⟨hwindow, .inl hram⟩

/-- A read that returns a cell returns its byte. -/
theorem State.peek_of_readCell {s : State} {addr cell : Word} (h : readCell s.cfg addr = some cell) :
    s.peek addr = s.mem.read cell := by
  obtain ⟨hwindow, hram | hrom⟩ := (readCell_eq_some_iff s.cfg addr cell).mp h
  · simp [State.peek, State.extRead, hwindow, hram]
  · simp [State.peek, State.extRead, hwindow, hrom]

/-- A read that returns no cell does not see the cells. -/
theorem State.peek_of_no_readCell {s : State} {addr : Word} (h : readCell s.cfg addr = none) (m : Memory) :
    State.peek { s with mem := m } addr = s.peek addr := by
  have hcell (cell : Word) := mt (readCell_eq_some_iff s.cfg addr cell).mpr (by simp [h])
  unfold State.peek
  cases hwindow : windowReg s.cfg addr with
  | some r => cases r <;> rfl
  | none =>
    unfold State.extRead
    cases hbacking : s.cfg.backing addr with
    | ram cell | rom cell => simp [hwindow, hbacking] at hcell
    | idle | device => rfl

/-- A byte written to a cell is what every address that returns the cell reads, and no other address sees it. -/
theorem State.peek_write8 {s : State} {addr cell : Word} (h : ramCell s.cfg addr = some cell) (v : Byte) (b : Word) :
    (s.write8 addr v).peek b = if readCell s.cfg b = some cell then v else s.peek b := by
  rw [State.write8_ram v h]
  cases hb : readCell s.cfg b with
  | none => simp [State.peek_of_no_readCell hb]
  | some other =>
    have hwritten : State.peek { s with mem := s.mem.write cell v } b = (s.mem.write cell v).read other :=
      State.peek_of_readCell (s := { s with mem := s.mem.write cell v }) hb
    simp [hwritten, State.peek_of_readCell hb, eq_comm]

/-- Where the environment has ROM, nothing, or a device (R61). -/
theorem State.access_rom {s : State} {addr cell : Word} (hw : windowReg s.cfg addr = none)
    (hb : s.cfg.backing addr = .rom cell) : s.read8 addr = (s.mem.read cell, s) ∧ ∀ v, s.write8 addr v = s := by
  simp [State.read8_unclaimed hw, State.extRead, State.extReadEffect, State.write8, State.extWrite, hw, hb]

theorem State.access_idle {s : State} {addr : Word} (hw : windowReg s.cfg addr = none)
    (hb : s.cfg.backing addr = .idle) : s.read8 addr = (Config.idleBus, s) ∧ ∀ v, s.write8 addr v = s := by
  simp [State.read8_unclaimed hw, State.extRead, State.extReadEffect, State.write8, State.extWrite, hw, hb]

theorem State.access_device {s : State} {addr : Word} (hw : windowReg s.cfg addr = none)
    (hb : s.cfg.backing addr = .device) :
    s.read8 addr = (Config.deviceByte s.devLog s.total addr, s.logDevice addr none) ∧
      ∀ v, s.write8 addr v = s.logDevice addr (some v) := by
  simp [State.read8_unclaimed hw, State.extRead, State.extReadEffect, State.write8, State.extWrite, hw, hb]

/-- Settles O49: RAM as written, then the accesses where no cell is written, then the canonical form. -/
theorem memoryIsRamAndCanonical : Obligations.MemoryIsRamAndCanonical :=
  ⟨fun _ _ _ v h => State.peek_write8 h v, fun _ _ v h => State.write8_no_cell v h,
    fun _ _ hw => ⟨fun _ => State.access_rom hw, State.access_idle hw, State.access_device hw⟩,
    fun _ addr v h => Memory.wf_write addr v h, fun m n hm hn h => Memory.eq_of_read_from m n 0 hm hn h⟩

/-! What a read changes (R66, R70). -/

theorem deviceAddr_iff (c : Config) (addr : Word) :
    deviceAddr c addr = true ↔ windowReg c addr = none ∧ c.backing addr = .device := by
  simp [deviceAddr]

/-- The registers whose read has a side effect (R66). -/
theorem State.windowReadEffect_ne {s : State} {r : WindowReg} (h : s.windowReadEffect r ≠ s) :
    r = .tcsr ∨ r = .ch ∨ r = .ocrh ∨ r = .icrh ∨ r = .rdr ∨ (r = .cl ∧ s.cfg.clFallthrough = true) := by
  cases r with
  | cl =>
    cases hcl : s.cfg.clFallthrough with
    | true => simp
    | false => simp [State.windowReadEffect, hcl] at h
  | ocrl | icrl | rmcr | trcsr | tdr => exact absurd rfl h
  | tcsr | ch | ocrh | icrh | rdr => simp

/-- A read of a register changes nothing but the timer and the UART. -/
theorem State.windowReadEffect_eq (s : State) (r : WindowReg) :
    s.windowReadEffect r = { s with tim := (s.windowReadEffect r).tim, sci := (s.windowReadEffect r).sci } := by
  cases r with
  | cl => cases h : s.cfg.clFallthrough <;> simp [State.windowReadEffect, h]
  | _ => rfl

theorem State.readEffect_claimed {s : State} {addr : Word} {r : WindowReg} (h : windowReg s.cfg addr = some r) :
    s.readEffect addr = s.windowReadEffect r := by
  simp [State.readEffect, h]

theorem State.readEffect_device {s : State} {addr : Word} (h : deviceAddr s.cfg addr = true) :
    s.readEffect addr = s.logDevice addr none := by
  obtain ⟨hw, hb⟩ := (deviceAddr_iff s.cfg addr).mp h
  simp [State.readEffect, State.extReadEffect, hw, hb]

/-- A read that is neither a register's nor a device's changes nothing. -/
theorem State.readEffect_memory {s : State} {addr : Word} (hw : windowReg s.cfg addr = none)
    (h : deviceAddr s.cfg addr = false) : s.readEffect addr = s :=
  State.readEffect_quiet hw fun hb => by simp [(deviceAddr_iff s.cfg addr).mpr ⟨hw, hb⟩] at h

/-- Settles O51: an address is claimed, a device's, or neither, and the read's effect in each case. -/
theorem readSideEffectsAreListed : Obligations.ReadSideEffectsAreListed := by
  refine fun s addr => ⟨fun hne => ?_, fun hdevice => ?_, fun hdevice => ?_, rfl, State.read8_unclaimed⟩
  · cases hw : windowReg s.cfg addr with
    | some r =>
      rw [State.readEffect_claimed hw] at hne
      exact .inr ⟨r, rfl, State.windowReadEffect_ne hne⟩
    | none =>
      by_contra hquiet
      exact hne (State.readEffect_memory hw (by simpa using hquiet))
  · cases hw : windowReg s.cfg addr with
    | some r =>
      rw [State.readEffect_claimed hw]
      exact s.windowReadEffect_eq r
    | none => rw [State.readEffect_memory hw hdevice]
  · rw [State.readEffect_device hdevice]
    rfl

end Sys2Proof.Machine

/-!
Proofs about every instruction: the registers, flags, cells and peripherals that it leaves alone (spec/00_scope.md R13).

A footprint says what a meaning may change: the registers and flags it may write, the addresses it may store to and read. One
rule for each operation on the state says when the operation stays within a footprint; a meaning is a few operations, so it
stays within the footprint that the tables of Claims give its instruction. What the footprint leaves out is then unchanged:
the fields directly, the cells, the peripherals and the log of devices by induction on the accesses.
-/

namespace Sys2Proof.Claims

open Sys2Proof.Machine

/-! Names for the entries of the tables of registers and flags. -/

def Regs.none : Regs := ⟨false, false, false, false, false, false⟩
def Regs.acc : Acc → Regs
  | .A => { Regs.none with a := true }
  | .B => { Regs.none with b := true }
def Regs.d : Regs := { Regs.none with a := true, b := true }
def Regs.justX : Regs := { Regs.none with x := true }
def Regs.justSp : Regs := { Regs.none with sp := true }
def Regs.justPc : Regs := { Regs.none with pc := true }
def Regs.justMode : Regs := { Regs.none with mode := true }
def Regs.spPc : Regs := { Regs.none with sp := true, pc := true }
def Regs.frame : Regs := ⟨true, true, true, true, false, true⟩

def Flags.none : Flags := ⟨false, false, false, false, false, false⟩
def Flags.justI : Flags := { Flags.none with i := true }
def Flags.justZ : Flags := { Flags.none with z := true }
def Flags.justV : Flags := { Flags.none with v := true }
def Flags.justC : Flags := { Flags.none with c := true }
def Flags.nzv : Flags := { Flags.none with n := true, z := true, v := true }
def Flags.nzvc : Flags := { Flags.nzv with c := true }
def Flags.hnzvc : Flags := { Flags.nzvc with h := true }
def Flags.all : Flags := ⟨true, true, true, true, true, true⟩

/-- Every register but those of `r` holds what it held. -/
structure Regs.Kept (r : Regs) (s t : State) : Prop where
  a : r.a = false → t.a = s.a
  b : r.b = false → t.b = s.b
  x : r.x = false → t.x = s.x
  sp : r.sp = false → t.sp = s.sp
  mode : r.mode = false → t.mode = s.mode
  pc : r.pc = false → t.pc = s.pc

/-- Every flag but those of `f` is as it was. -/
structure Flags.Kept (f : Flags) (old new : CC) : Prop where
  h : f.h = false → new.h = old.h
  i : f.i = false → new.i = old.i
  n : f.n = false → new.n = old.n
  z : f.z = false → new.z = old.z
  v : f.v = false → new.v = old.v
  c : f.c = false → new.c = old.c

/-- How many free values an instruction draws (log 8). -/
def drawn : Instr → Nat
  | .daa => 1
  | _ => 0

theorem drawn_eq (i : Instr) : drawn i = if i = .daa then 1 else 0 := by
  unfold drawn
  split <;> simp_all

end Sys2Proof.Claims

namespace Sys2Proof.Machine

open Sys2Proof.Claims Sys2Proof.Laws

/-! The accesses of a meaning, and what they leave alone. -/

/-- Two states that differ in registers and counters at most. -/
def State.SameBus (s t : State) : Prop :=
  t.cfg = s.cfg ∧ t.tim = s.tim ∧ t.sci = s.sci ∧ t.mem = s.mem ∧ t.devLog = s.devLog

/-- Two states that differ in `CC` and the registers of a frame at most. -/
def State.Pulled (s t : State) : Prop := t.mode = s.mode ∧ t.draws = s.draws ∧ s.SameBus t

/-- `t` comes from `s` by updates of registers, reads of addresses of `reads` and writes of addresses of `stores`. -/
inductive Accesses (stores reads : List Word) (s : State) : State → Prop
  | start : Accesses stores reads s s
  | registers {t u : State} (h : Accesses stores reads s t) (hbus : t.SameBus u) : Accesses stores reads s u
  | read {t : State} (h : Accesses stores reads s t) (addr : Word) (ha : addr ∈ reads) :
      Accesses stores reads s (t.readEffect addr)
  | write {t : State} (h : Accesses stores reads s t) (addr : Word) (v : Byte) (ha : addr ∈ stores) :
      Accesses stores reads s (t.write8 addr v)

section
variable {stores reads : List Word} {s t : State}

theorem Accesses.cfg (h : Accesses stores reads s t) : t.cfg = s.cfg := by
  induction h with
  | start => rfl
  | registers _ hbus ih => exact hbus.1.trans ih
  | read _ addr _ ih => rw [State.readEffect_cfg, ih]
  | write _ addr v _ ih => rw [State.write8_cfg, ih]

/-- A cell that no store reaches holds what it held. -/
theorem Accesses.mem (h : Accesses stores reads s t) {cell : Word}
    (hcell : ∀ addr ∈ stores, ramCell s.cfg addr ≠ some cell) : t.mem.read cell = s.mem.read cell := by
  induction h with
  | start => rfl
  | registers _ hbus ih => rw [hbus.2.2.2.1, ih]
  | read _ addr _ ih => rw [State.readEffect_mem, ih]
  | write h addr v ha ih => rw [State.write8_mem_other v (h.cfg ▸ hcell addr ha), ih]

/-- Accesses outside the window leave the peripherals alone (R62). -/
theorem Accesses.peripherals (h : Accesses stores reads s t)
    (hwindow : ∀ addr ∈ stores ++ reads, windowReg s.cfg addr = none) : t.tim = s.tim ∧ t.sci = s.sci := by
  induction h with
  | start => exact ⟨rfl, rfl⟩
  | registers _ hbus ih => exact ⟨hbus.2.1.trans ih.1, hbus.2.2.1.trans ih.2⟩
  | read h addr ha ih =>
    have hnone := h.cfg ▸ hwindow addr (List.mem_append_right _ ha)
    simpa [State.readEffect, hnone] using ih
  | write h addr v ha ih =>
    obtain ⟨htim, hsci⟩ := State.write8_unclaimed v (h.cfg ▸ hwindow addr (List.mem_append_left _ ha))
    exact ⟨htim.trans ih.1, hsci.trans ih.2⟩

/-- Accesses to no device are not recorded (log 2). -/
theorem Accesses.devLog (h : Accesses stores reads s t)
    (hdevice : ∀ addr ∈ stores ++ reads, deviceAddr s.cfg addr = false) : t.devLog = s.devLog := by
  induction h with
  | start => rfl
  | registers _ hbus ih => exact hbus.2.2.2.2.trans ih
  | read h addr ha ih => exact (State.readEffect_devLog (h.cfg ▸ hdevice addr (List.mem_append_right _ ha))).trans ih
  | write h addr v ha ih =>
    exact (State.write8_devLog v (h.cfg ▸ hdevice addr (List.mem_append_left _ ha))).trans ih

end

/-! Footprints, and one rule for each operation on the state. -/

/-- What an instruction may change, by the tables of Claims. -/
structure Footprint where
  regs : Regs
  flags : Flags
  drawn : Nat := 0
  stores : State → List Word := fun _ => []
  reads : State → List Word := fun _ => []

/-- `t` differs from `s` in what a footprint allows at most. -/
structure Within (p : Footprint) (s t : State) : Prop where
  regs : p.regs.Kept s t
  flags : p.flags.Kept s.cc t.cc
  draws : t.draws = s.draws + p.drawn
  accesses : Accesses (p.stores s) (p.reads s) s t

/-- Whether a footprint allows a write of an accumulator. -/
def Footprint.allows (p : Footprint) : Acc → Bool
  | .A => p.regs.a
  | .B => p.regs.b

section
variable {p : Footprint} {s t : State}

theorem Within.start (h : p.drawn = 0) : Within p s s :=
  ⟨⟨fun _ => rfl, fun _ => rfl, fun _ => rfl, fun _ => rfl, fun _ => rfl, fun _ => rfl⟩,
    ⟨fun _ => rfl, fun _ => rfl, fun _ => rfl, fun _ => rfl, fun _ => rfl, fun _ => rfl⟩, by simp [h], .start⟩

theorem Within.setAcc (h : Within p s t) {r : Acc} (hr : p.allows r = true) (v : Byte) : Within p s (t.setAcc r v) := by
  obtain ⟨hregs, hflags, hdraws, haccesses⟩ := h
  cases r with
  | A => exact ⟨{ hregs with a := fun ha => absurd hr (by simp [Footprint.allows, ha]) }, hflags, hdraws,
      haccesses.registers ⟨rfl, rfl, rfl, rfl, rfl⟩⟩
  | B => exact ⟨{ hregs with b := fun hb => absurd hr (by simp [Footprint.allows, hb]) }, hflags, hdraws,
      haccesses.registers ⟨rfl, rfl, rfl, rfl, rfl⟩⟩

theorem Within.setD (h : Within p s t) (ha : p.allows .A = true) (hb : p.allows .B = true) (v : Word) :
    Within p s (t.setD v) :=
  (h.setAcc ha (hiByte v)).setAcc hb (loByte v)

theorem Within.setX (h : Within p s t) (hx : p.regs.x = true) (v : Word) : Within p s (t.setX v) :=
  ⟨{ h.regs with x := fun hx' => absurd hx (by simp [hx']) }, h.flags, h.draws,
    h.accesses.registers ⟨rfl, rfl, rfl, rfl, rfl⟩⟩

theorem Within.setSp (h : Within p s t) (hsp : p.regs.sp = true) (v : Word) : Within p s (t.setSp v) :=
  ⟨{ h.regs with sp := fun hsp' => absurd hsp (by simp [hsp']) }, h.flags, h.draws,
    h.accesses.registers ⟨rfl, rfl, rfl, rfl, rfl⟩⟩

theorem Within.setPc (h : Within p s t) (hpc : p.regs.pc = true) (v : Word) : Within p s (t.setPc v) :=
  ⟨{ h.regs with pc := fun hpc' => absurd hpc (by simp [hpc']) }, h.flags, h.draws,
    h.accesses.registers ⟨rfl, rfl, rfl, rfl, rfl⟩⟩

theorem Within.setMode (h : Within p s t) (hmode : p.regs.mode = true) (m : Mode) : Within p s (t.setMode m) :=
  ⟨{ h.regs with mode := fun hmode' => absurd hmode (by simp [hmode']) }, h.flags, h.draws,
    h.accesses.registers ⟨rfl, rfl, rfl, rfl, rfl⟩⟩

theorem Within.setCc (h : Within p s t) {f : CC} (hf : p.flags.Kept s.cc f) : Within p s (t.setCc f) :=
  ⟨{ h.regs with }, hf, h.draws, h.accesses.registers ⟨rfl, rfl, rfl, rfl, rfl⟩⟩

theorem Within.read8 (h : Within p s t) {addr : Word} (ha : addr ∈ p.reads s) : Within p s (t.read8 addr).2 := by
  obtain ⟨⟨ha', hb, hx, hsp, hmode, hpc⟩, hflags, hdraws, haccesses⟩ := h
  exact ⟨by constructor <;> simpa, by simpa, by simpa, haccesses.read addr ha⟩

theorem Within.write8 (h : Within p s t) {addr : Word} (ha : addr ∈ p.stores s) (v : Byte) :
    Within p s (t.write8 addr v) := by
  obtain ⟨⟨ha', hb, hx, hsp, hmode, hpc⟩, hflags, hdraws, haccesses⟩ := h
  exact ⟨by constructor <;> simpa, by simpa, by simpa, haccesses.write addr v ha⟩

theorem Within.read16 (h : Within p s t) {addr : Word} (ha : addr ∈ p.reads s) (ha1 : addr + 1#16 ∈ p.reads s) :
    Within p s (t.read16 addr).2 :=
  (h.read8 ha).read8 ha1

theorem Within.write16 (h : Within p s t) {addr : Word} (ha : addr ∈ p.stores s) (ha1 : addr + 1#16 ∈ p.stores s)
    (v : Word) : Within p s (t.write16 addr v) :=
  (h.write8 ha _).write8 ha1 _

theorem Within.writeDown {l : List Byte} {addr : Word} (h : Within p s t)
    (ha : ∀ k < l.length, addr - BitVec.ofNat 16 k ∈ p.stores s) : Within p s (writeDown t addr l) := by
  induction l generalizing t addr with
  | nil => exact h
  | cons v l ih =>
    refine ih (h.write8 (by simpa using ha 0 (Nat.succ_pos _)) v) fun k hk => ?_
    simpa [BitVec.sub_sub, ← BitVec.ofNat_add, Nat.add_comm] using ha (k + 1) (Nat.succ_lt_succ hk)

theorem Within.readUp {n : Nat} {addr : Word} (h : Within p s t)
    (ha : ∀ k < n, addr + BitVec.ofNat 16 k ∈ p.reads s) : Within p s (readUp t addr n).2 := by
  induction n generalizing t addr with
  | zero => exact h
  | succ n ih =>
    refine ih (h.read8 (by simpa using ha 0 (Nat.succ_pos _))) fun k hk => ?_
    rw [word_add_one_add_ofNat]
    exact ha (k + 1) (Nat.succ_lt_succ hk)

/-- A return from an interrupt gives values to every register that a frame holds (R376). -/
theorem Within.pulled (h : Within p s t) {u : State} (hregs : p.regs = .frame) (hflags : p.flags = .all)
    (hu : t.Pulled u) : Within p s u := by
  obtain ⟨hmode, hdraws, hbus⟩ := hu
  have hkept := h.regs.mode
  rw [hregs] at hkept
  exact ⟨hregs ▸ ⟨nofun, nofun, nofun, nofun, fun hm => hmode.trans (hkept hm), nofun⟩,
    hflags ▸ ⟨nofun, nofun, nofun, nofun, nofun, nofun⟩, hdraws.trans h.draws, h.accesses.registers hbus⟩

end

/-! The flags that the flag updates write. -/

section
variable (f : CC)

theorem CC.setNzvc_kept {w : Nat} (res : Res w) : Flags.nzvc.Kept f (f.setNzvc res) :=
  ⟨fun _ => rfl, fun _ => rfl, nofun, nofun, nofun, nofun⟩

theorem CC.setHnzvc_kept {w : Nat} (h : Bool) (res : Res w) : Flags.hnzvc.Kept f (f.setHnzvc h res) :=
  ⟨nofun, fun _ => rfl, nofun, nofun, nofun, nofun⟩

theorem CC.setLogic_kept {w : Nat} (r : BitVec w) : Flags.nzv.Kept f (f.setLogic r) :=
  ⟨fun _ => rfl, fun _ => rfl, nofun, nofun, nofun, fun _ => rfl⟩

theorem CC.setNzv_kept {w : Nat} (r : BitVec w) (v : Bool) : Flags.nzv.Kept f (f.setNzv r v) :=
  ⟨fun _ => rfl, fun _ => rfl, nofun, nofun, nofun, fun _ => rfl⟩

theorem CC.setZ_kept (r : Word) : Flags.justZ.Kept f (f.setZ r) :=
  ⟨fun _ => rfl, fun _ => rfl, fun _ => rfl, nofun, fun _ => rfl, fun _ => rfl⟩

theorem CC.withI_kept (i : Bool) : Flags.justI.Kept f { f with i := i } :=
  ⟨fun _ => rfl, nofun, fun _ => rfl, fun _ => rfl, fun _ => rfl, fun _ => rfl⟩

theorem CC.withV_kept (v : Bool) : Flags.justV.Kept f { f with v := v } :=
  ⟨fun _ => rfl, fun _ => rfl, fun _ => rfl, fun _ => rfl, nofun, fun _ => rfl⟩

theorem CC.withC_kept (c : Bool) : Flags.justC.Kept f { f with c := c } :=
  ⟨fun _ => rfl, fun _ => rfl, fun _ => rfl, fun _ => rfl, fun _ => rfl, nofun⟩

theorem CC.all_kept (g : CC) : Flags.all.Kept f g :=
  ⟨nofun, nofun, nofun, nofun, nofun, nofun⟩

end

/-! The shared meanings of the instructions. -/

/-- The addresses that an 8-bit operand reads (R94). -/
def Src.addrs8 (src : Src 8) (s : State) : List Word :=
  match src with
  | .imm _ => []
  | .mem m => [m.ea s]

/-- The addresses that a 16-bit operand reads (R64, R94). -/
def Src.addrs16 (src : Src 16) (s : State) : List Word :=
  match src with
  | .imm _ => []
  | .mem m => [m.ea s, m.ea s + 1#16]

/-- The entry stores its frame and reads its vector (R376). -/
def entryFootprint (vec : Word) : Footprint where
  regs := .spPc
  flags := .justI
  stores := fun s => [s.sp, s.sp - 1#16, s.sp - 2#16, s.sp - 3#16, s.sp - 4#16, s.sp - 5#16, s.sp - 6#16]
  reads := fun _ => [vec, vec + 1#16]

section
variable (s : State)

theorem Within.operand8 {p : Footprint} (src : Src 8) (hdrawn : p.drawn = 0) (hreads : p.reads s = src.addrs8 s) :
    Within p s (s.operand8 src).2 := by
  cases src with
  | imm v => exact .start hdrawn
  | mem m => exact (Within.start hdrawn).read8 (by simp [hreads, Src.addrs8])

theorem Within.operand16 {p : Footprint} (src : Src 16) (hdrawn : p.drawn = 0) (hreads : p.reads s = src.addrs16 s) :
    Within p s (s.operand16 src).2 := by
  cases src with
  | imm v => exact .start hdrawn
  | mem m => exact (Within.start hdrawn).read16 (by simp [hreads, Src.addrs16]) (by simp [hreads, Src.addrs16])

theorem Footprint.allows_acc (r : Acc) (f : Flags) (n : Nat) (ws rs : State → List Word) :
    Footprint.allows ⟨.acc r, f, n, ws, rs⟩ r = true := by
  cases r <;> rfl

theorem within_addAcc (r : Acc) (cin : Bool) (src : Src 8) :
    Within { regs := .acc r, flags := .hnzvc, reads := src.addrs8 } s (s.addAcc r cin src) := by
  simp only [State.addAcc, State.operand8_cc]
  exact ((Within.operand8 s src rfl rfl).setAcc (Footprint.allows_acc ..) _).setCc (s.cc.setHnzvc_kept _ _)

theorem within_subAcc (r : Acc) (bin : Bool) (src : Src 8) :
    Within { regs := .acc r, flags := .nzvc, reads := src.addrs8 } s (s.subAcc r bin src) := by
  simp only [State.subAcc, State.operand8_cc]
  exact ((Within.operand8 s src rfl rfl).setAcc (Footprint.allows_acc ..) _).setCc (s.cc.setNzvc_kept _)

theorem within_cmpAcc (r : Acc) (src : Src 8) :
    Within { regs := .none, flags := .nzvc, reads := src.addrs8 } s (s.cmpAcc r src) := by
  simp only [State.cmpAcc, State.operand8_cc]
  exact (Within.operand8 s src rfl rfl).setCc (s.cc.setNzvc_kept _)

theorem within_loadAcc (r : Acc) (src : Src 8) :
    Within { regs := .acc r, flags := .nzv, reads := src.addrs8 } s (s.loadAcc r src) := by
  simp only [State.loadAcc, State.operand8_cc]
  exact ((Within.operand8 s src rfl rfl).setAcc (Footprint.allows_acc ..) _).setCc (s.cc.setLogic_kept _)

theorem within_addD (src : Src 16) :
    Within { regs := .d, flags := .nzvc, reads := src.addrs16 } s (s.addD src) := by
  simp only [State.addD, State.operand16_cc]
  exact ((Within.operand16 s src rfl rfl).setD rfl rfl _).setCc (s.cc.setNzvc_kept _)

theorem within_subD (src : Src 16) :
    Within { regs := .d, flags := .nzvc, reads := src.addrs16 } s (s.subD src) := by
  simp only [State.subD, State.operand16_cc]
  exact ((Within.operand16 s src rfl rfl).setD rfl rfl _).setCc (s.cc.setNzvc_kept _)

theorem within_loadD (src : Src 16) :
    Within { regs := .d, flags := .nzv, reads := src.addrs16 } s (s.loadD src) := by
  simp only [State.loadD, State.operand16_cc]
  exact ((Within.operand16 s src rfl rfl).setD rfl rfl _).setCc (s.cc.setLogic_kept _)

theorem within_loadX (src : Src 16) :
    Within { regs := .justX, flags := .nzv, reads := src.addrs16 } s (s.loadX src) := by
  simp only [State.loadX, State.operand16_cc]
  exact ((Within.operand16 s src rfl rfl).setX rfl _).setCc (s.cc.setLogic_kept _)

theorem within_loadSp (src : Src 16) :
    Within { regs := .justSp, flags := .nzv, reads := src.addrs16 } s (s.loadSp src) := by
  simp only [State.loadSp, State.operand16_cc]
  exact ((Within.operand16 s src rfl rfl).setSp rfl _).setCc (s.cc.setLogic_kept _)

theorem within_storeAcc (r : Acc) (m : Mem) :
    Within { regs := .none, flags := .nzv, stores := fun s => [m.ea s] } s (s.storeAcc r m) := by
  simp only [State.storeAcc, State.write8_cc]
  exact ((Within.start rfl).write8 (by simp) _).setCc (s.cc.setLogic_kept _)

theorem within_storeD (m : Mem) :
    Within { regs := .none, flags := .nzv, stores := fun s => [m.ea s, m.ea s + 1#16] } s (s.storeD m) := by
  simp only [State.storeD, State.write16_cc]
  exact ((Within.start rfl).write16 (by simp) (by simp) _).setCc (s.cc.setLogic_kept _)

theorem within_storeX (m : Mem) :
    Within { regs := .none, flags := .nzv, stores := fun s => [m.ea s, m.ea s + 1#16] } s (s.storeX m) := by
  simp only [State.storeX, State.write16_cc]
  exact ((Within.start rfl).write16 (by simp) (by simp) _).setCc (s.cc.setLogic_kept _)

theorem within_shiftAcc (k : ShiftKind) (r : Acc) :
    Within { regs := .acc r, flags := .nzvc } s (s.shiftAcc k r) :=
  ((Within.start rfl).setAcc (Footprint.allows_acc ..) _).setCc (s.cc.setNzvc_kept _)

theorem within_shiftMem (k : ShiftKind) (m : Mem) :
    Within { regs := .none, flags := .nzvc, stores := fun s => [m.ea s], reads := fun s => [m.ea s] } s
      (s.shiftMem k m) := by
  rw [State.shiftMem_eq]
  exact (((Within.start rfl).read8 (by simp)).write8 (by simp) _).setCc (s.cc.setNzvc_kept _)

theorem within_updateMem (m : Mem) (f : Byte → Byte) :
    Within { regs := .none, flags := .nzv, stores := fun s => [m.ea s], reads := fun s => [m.ea s] } s
      (s.updateMem m f) := by
  rw [State.updateMem_eq, ← CC.setLogic_eq_logicFlags]
  exact (((Within.start rfl).read8 (by simp)).write8 (by simp) _).setCc (s.cc.setLogic_kept _)

theorem within_testMem (m : Mem) (f : Byte → Byte) :
    Within { regs := .none, flags := .nzv, reads := fun s => [m.ea s] } s (s.testMem m f) := by
  rw [State.testMem_eq, ← CC.setLogic_eq_logicFlags]
  exact ((Within.start rfl).read8 (by simp)).setCc (s.cc.setLogic_kept _)

theorem within_shiftD (k : ShiftKind) : Within { regs := .d, flags := .nzvc } s (s.shiftD k) :=
  ((Within.start rfl).setD rfl rfl _).setCc (s.cc.setNzvc_kept _)

theorem within_mul : Within { regs := .d, flags := .justC } s s.mul :=
  ((Within.start rfl).setD rfl rfl _).setCc (s.cc.withC_kept _)

theorem within_incAcc (r : Acc) : Within { regs := .acc r, flags := .nzv } s (s.incAcc r) :=
  ((Within.start rfl).setAcc (Footprint.allows_acc ..) _).setCc (s.cc.setNzv_kept _ _)

theorem within_decAcc (r : Acc) : Within { regs := .acc r, flags := .nzv } s (s.decAcc r) :=
  ((Within.start rfl).setAcc (Footprint.allows_acc ..) _).setCc (s.cc.setNzv_kept _ _)

theorem within_incX : Within { regs := .justX, flags := .justZ } s s.incX :=
  ((Within.start rfl).setX rfl _).setCc (s.cc.setZ_kept _)

theorem within_decX : Within { regs := .justX, flags := .justZ } s s.decX :=
  ((Within.start rfl).setX rfl _).setCc (s.cc.setZ_kept _)

theorem within_daa : Within { regs := .acc .A, flags := .nzvc, drawn := 1 } s s.daa :=
  ⟨⟨nofun, fun _ => rfl, fun _ => rfl, fun _ => rfl, fun _ => rfl, fun _ => rfl⟩,
    ⟨fun _ => rfl, fun _ => rfl, nofun, nofun, nofun, nofun⟩, rfl, .registers .start ⟨rfl, rfl, rfl, rfl, rfl⟩⟩

theorem within_branch (k : Cond) (rr : Byte) :
    Within { regs := if k = .never then .none else .justPc, flags := .none } s (s.branch k rr) := by
  unfold State.branch
  by_cases hk : s.cc.holds k = true
  · have hnever : k ≠ .never := by rintro rfl; exact Bool.noConfusion hk
    rw [if_pos hk, if_neg hnever]
    exact (Within.start rfl).setPc rfl _
  · rw [if_neg hk]
    exact .start rfl

/-- The two addresses of a pushed word (R27). -/
theorem within_call (target : Word) :
    Within { regs := .spPc, flags := .none, stores := fun s => [s.sp, s.sp - 1#16] } s (s.call target) := by
  rw [State.call, State.push16_eq]
  refine (((Within.start rfl).writeDown fun k hk => ?_).setSp rfl _).setPc rfl _
  change k < 2 at hk
  interval_cases k <;> simp

theorem within_returnFromCall :
    Within { regs := .spPc, flags := .none, reads := fun s => [s.sp + 1#16, s.sp + 2#16] } s s.returnFromCall := by
  rw [State.returnFromCall, State.pull16_eq]
  refine (((Within.start rfl).readUp fun k hk => ?_).setSp rfl _).setPc rfl _
  interval_cases k <;> simp [BitVec.add_assoc]

theorem within_returnFromInterrupt :
    Within { regs := .frame, flags := .all, reads := fun s => [s.sp + 1#16, s.sp + 2#16, s.sp + 3#16, s.sp + 4#16,
      s.sp + 5#16, s.sp + 6#16, s.sp + 7#16] } s s.returnFromInterrupt := by
  rw [State.returnFromInterrupt_eq_pullBytes, State.pullBytes_eq]
  refine (Within.start rfl).readUp (n := 7) (addr := s.sp + 1#16) (fun k hk => ?_) |>.pulled rfl rfl ?_
  · interval_cases k <;> simp [BitVec.add_assoc]
  · simp only [State.setSp, State.Pulled, State.SameBus, and_self]

theorem within_interruptEntry (vec : Word) : Within (entryFootprint vec) s (s.interruptEntry vec) := by
  rw [State.interruptEntry_eq]
  have hpushed := (Within.start (p := entryFootprint vec) (s := s) rfl).writeDown (addr := s.sp) (l := frame s)
    fun k hk => by change k < 7 at hk; interval_cases k <;> simp [entryFootprint]
  have hread := hpushed.read16 (addr := vec) (by simp [entryFootprint]) (by simp [entryFootprint])
  exact ((hread.setSp rfl (s.sp - 7#16)).setCc (s.cc.withI_kept true)).setPc rfl (State.read16 _ vec).1

theorem within_illegalSlot :
    Within { regs := .spPc, flags := .justI, stores := trapStores, reads := trapReads } s s.illegalSlot := by
  unfold State.illegalSlot
  split
  next => exact .start rfl
  next htrap =>
    obtain ⟨hregs, hflags, hdraws, haccesses⟩ := within_interruptEntry s s.cfg.vecTrap
    exact ⟨hregs, hflags, hdraws, by simpa only [trapStores, trapReads, htrap, State.trapEntry, entryFootprint] using haccesses⟩

end

/-! Every instruction. -/

/-- The footprint of an instruction, as the tables of Claims give it. -/
def footprint (i : Instr) : Footprint where
  regs := writesRegs i
  flags := writesFlags i
  drawn := drawn i
  stores := fun s => stores s i
  reads := fun s => reads s i

/-- The instruction's meaning stays within its footprint. -/
def StaysWithin (i : Instr) : Prop := ∀ s t : State, exec i s = .next t → Within (footprint i) s t

theorem StaysWithin.of_exec {i : Instr} {f : State → State} {p : Footprint} (hp : footprint i = p)
    (hexec : ∀ s, exec i s = .next (f s)) (hwithin : ∀ s, Within p s (f s)) : StaysWithin i := by
  intro s t h
  obtain rfl : f s = t := Host.Outcome.next.inj ((hexec s).symm.trans h)
  exact hp ▸ hwithin s

section
variable (r : Acc) (src : Src 8) (src16 : Src 16) (m : Mem)

theorem footprint_add : footprint (add r src) = { regs := .acc r, flags := .hnzvc, reads := src.addrs8 } := by
  rcases src with v | (dd | ff | hhll) <;> cases r <;> rfl

theorem footprint_adc : footprint (adc r src) = { regs := .acc r, flags := .hnzvc, reads := src.addrs8 } := by
  rcases src with v | (dd | ff | hhll) <;> cases r <;> rfl

theorem footprint_sub : footprint (sub r src) = { regs := .acc r, flags := .nzvc, reads := src.addrs8 } := by
  rcases src with v | (dd | ff | hhll) <;> cases r <;> rfl

theorem footprint_sbc : footprint (sbc r src) = { regs := .acc r, flags := .nzvc, reads := src.addrs8 } := by
  rcases src with v | (dd | ff | hhll) <;> cases r <;> rfl

theorem footprint_cmp : footprint (cmp r src) = { regs := .none, flags := .nzvc, reads := src.addrs8 } := by
  rcases src with v | (dd | ff | hhll) <;> cases r <;> rfl

theorem footprint_lda : footprint (lda r src) = { regs := .acc r, flags := .nzv, reads := src.addrs8 } := by
  rcases src with v | (dd | ff | hhll) <;> cases r <;> rfl

theorem footprint_addD : footprint (addD src16) = { regs := .d, flags := .nzvc, reads := src16.addrs16 } := by
  rcases src16 with v | (dd | ff | hhll) <;> rfl

theorem footprint_subD : footprint (subD src16) = { regs := .d, flags := .nzvc, reads := src16.addrs16 } := by
  rcases src16 with v | (dd | ff | hhll) <;> rfl

theorem footprint_ldd : footprint (ldd src16) = { regs := .d, flags := .nzv, reads := src16.addrs16 } := by
  rcases src16 with v | (dd | ff | hhll) <;> rfl

theorem footprint_ldx : footprint (ldx src16) = { regs := .justX, flags := .nzv, reads := src16.addrs16 } := by
  rcases src16 with v | (dd | ff | hhll) <;> rfl

theorem footprint_lds : footprint (lds src16) = { regs := .justSp, flags := .nzv, reads := src16.addrs16 } := by
  rcases src16 with v | (dd | ff | hhll) <;> rfl

theorem footprint_sta : footprint (sta r m) = { regs := .none, flags := .nzv, stores := fun s => [m.ea s] } := by
  cases r <;> cases m <;> rfl

theorem footprint_std :
    footprint (std m) = { regs := .none, flags := .nzv, stores := fun s => [m.ea s, m.ea s + 1#16] } := by
  cases m <;> rfl

theorem footprint_stx :
    footprint (stx m) = { regs := .none, flags := .nzv, stores := fun s => [m.ea s, m.ea s + 1#16] } := by
  cases m <;> rfl

theorem footprint_jsr :
    footprint (jsr m) = { regs := .spPc, flags := .none, stores := fun s => [s.sp, s.sp - 1#16] } := by
  cases m <;> rfl

theorem footprint_jmp {m : Mem} {i : Instr} (h : jmp m = some i) : footprint i = { regs := .justPc, flags := .none } := by
  cases m <;> cases h <;> rfl

theorem footprint_shiftAcc (k : ShiftKind) : footprint (shiftAcc k r) = { regs := .acc r, flags := .nzvc } := by
  cases k <;> cases r <;> rfl

theorem footprint_shiftMem {k : ShiftKind} {m : Mem} {i : Instr} (h : shiftMem k m = some i) : footprint i =
    { regs := .none, flags := .nzvc, stores := fun s => [m.ea s], reads := fun s => [m.ea s] } := by
  cases k <;> cases m <;> cases h <;> rfl

theorem footprint_maskMem {o : MaskOp} {ii : Byte} {m : Mem} {i : Instr} (h : maskMem o ii m = some i) : footprint i =
    { regs := .none, flags := .nzv, stores := fun s => if o = .tim then [] else [m.ea s], reads := fun s => [m.ea s] } := by
  cases o <;> cases m <;> cases h <;> rfl

theorem footprint_branch (k : Cond) (rr : Byte) :
    footprint (branch k rr) = { regs := if k = .never then .none else .justPc, flags := .none } := by
  cases k <;> rfl

theorem footprint_illegal {i : Instr} (h : i = .illegal00 ∨ i = .illegal02 ∨ i = .illegal03) :
    footprint i = { regs := .spPc, flags := .justI, stores := trapStores, reads := trapReads } := by
  rcases h with rfl | rfl | rfl <;> rfl

end

/-- Every instruction stays within its footprint, by the shapes of the instructions. -/
theorem staysWithin : ∀ i, StaysWithin i :=
  instr_cases
    (add := fun r src => .of_exec (footprint_add r src) (exec_add r src) (within_addAcc · r false src))
    (adc := fun r src => .of_exec (footprint_adc r src) (exec_adc r src) fun s => within_addAcc s r s.cc.c src)
    (sub := fun r src => .of_exec (footprint_sub r src) (exec_sub r src) (within_subAcc · r false src))
    (sbc := fun r src => .of_exec (footprint_sbc r src) (exec_sbc r src) fun s => within_subAcc s r s.cc.c src)
    (cmp := fun r src => .of_exec (footprint_cmp r src) (exec_cmp r src) (within_cmpAcc · r src))
    (lda := fun r src => .of_exec (footprint_lda r src) (exec_lda r src) (within_loadAcc · r src))
    (addD := fun src => .of_exec (footprint_addD src) (exec_addD src) (within_addD · src))
    (subD := fun src => .of_exec (footprint_subD src) (exec_subD src) (within_subD · src))
    (ldd := fun src => .of_exec (footprint_ldd src) (exec_ldd src) (within_loadD · src))
    (ldx := fun src => .of_exec (footprint_ldx src) (exec_ldx src) (within_loadX · src))
    (lds := fun src => .of_exec (footprint_lds src) (exec_lds src) (within_loadSp · src))
    (sta := fun r m => .of_exec (footprint_sta r m) (exec_sta r m) (within_storeAcc · r m))
    (std := fun m => .of_exec (footprint_std m) (exec_std m) (within_storeD · m))
    (stx := fun m => .of_exec (footprint_stx m) (exec_stx m) (within_storeX · m))
    (jsr := fun m => .of_exec (footprint_jsr m) (exec_jsr m) fun s => within_call s (m.ea s))
    (jmp := fun _ _ h => .of_exec (footprint_jmp h) (exec_jmp · h) fun _ => (Within.start rfl).setPc rfl _)
    (shiftAcc := fun k r => .of_exec (footprint_shiftAcc r k) (exec_shiftAcc k r) (within_shiftAcc · k r))
    (shiftMem := fun k m _ h => .of_exec (footprint_shiftMem h) (exec_shiftMem · h) (within_shiftMem · k m))
    (maskMem := fun o _ m _ h => .of_exec (footprint_maskMem h) (exec_maskMem · h) fun s => by
      by_cases ho : o = .tim
      · simpa [ho] using within_testMem s m _
      · simpa [ho] using within_updateMem s m _)
    (branch := fun k rr => .of_exec (footprint_branch k rr) (exec_branch k rr) (within_branch · k rr))
    (illegal := fun _ h => .of_exec (footprint_illegal h) (exec_illegal · h) within_illegalSlot)
    (daa := .of_exec rfl exec_daa within_daa)
    (mul := .of_exec rfl exec_mul within_mul)
    (inca := .of_exec rfl exec_inca (within_incAcc · .A))
    (incb := .of_exec rfl exec_incb (within_incAcc · .B))
    (deca := .of_exec rfl exec_deca (within_decAcc · .A))
    (decb := .of_exec rfl exec_decb (within_decAcc · .B))
    (inx := .of_exec rfl exec_inx within_incX)
    (dex := .of_exec rfl exec_dex within_decX)
    (asld := .of_exec rfl exec_asld (within_shiftD · .asl))
    (lsrd := .of_exec rfl exec_lsrd (within_shiftD · .lsr))
    (bsr := fun rr => .of_exec rfl (exec_bsr rr) fun s => within_call s (s.relTarget rr))
    (rts := .of_exec rfl exec_rts within_returnFromCall)
    (rti := .of_exec rfl exec_rti within_returnFromInterrupt)
    (wai := .of_exec (p := { regs := .justMode, flags := .none }) rfl exec_wai fun _ => (Within.start rfl).setMode rfl _)
    (slp := .of_exec (p := { regs := .justMode, flags := .none }) rfl exec_slp fun _ => (Within.start rfl).setMode rfl _)
    (nop := .of_exec rfl exec_nop fun _ => .start rfl)
    (tap := .of_exec (p := { regs := .none, flags := .all }) rfl exec_tap fun s =>
      (Within.start rfl).setCc (s.cc.all_kept _))
    (tpa := .of_exec (p := { regs := .acc .A, flags := .none }) rfl exec_tpa fun _ => (Within.start rfl).setAcc rfl _)
    (clv := .of_exec rfl exec_clv fun s => (Within.start rfl).setCc (s.cc.withV_kept _))
    (sev := .of_exec rfl exec_sev fun s => (Within.start rfl).setCc (s.cc.withV_kept _))
    (clc := .of_exec rfl exec_clc fun s => (Within.start rfl).setCc (s.cc.withC_kept _))
    (sec := .of_exec rfl exec_sec fun s => (Within.start rfl).setCc (s.cc.withC_kept _))
    (cli := .of_exec rfl exec_cli fun s => (Within.start rfl).setCc (s.cc.withI_kept _))
    (sei := .of_exec rfl exec_sei fun s => (Within.start rfl).setCc (s.cc.withI_kept _))

/-- Settles O23: the registers and the draws of the footprint, the ledger and the configuration. -/
theorem execChangesOnlyItsRegisters : Obligations.ExecChangesOnlyItsRegisters := by
  intro i s t h
  obtain ⟨⟨ha, hb, hx, hsp, hmode, hpc⟩, -, hdraws, -⟩ := staysWithin i s t h
  have hledger := keepsLedger i s t h
  have hdrawn : t.draws = if i = .daa then s.draws + 1 else s.draws := by
    rw [hdraws, footprint, drawn_eq]
    split <;> rfl
  exact ⟨ha, hb, hx, hsp, hmode, hpc, congrArg Ledger.tinLine hledger, congrArg Ledger.rxdLine hledger,
    keepsCfg i s t h, congrArg Ledger.nmiPend hledger, congrArg Ledger.rstPend hledger, congrArg Ledger.irqLine hledger,
    congrArg Ledger.nmiLine hledger, congrArg Ledger.resetLine hledger, congrArg Ledger.icount hledger,
    congrArg Ledger.total hledger, hdrawn⟩

/-- Settles O24: the flags of the footprint. -/
theorem execChangesOnlyItsFlags : Obligations.ExecChangesOnlyItsFlags := by
  intro i s t h
  obtain ⟨hh, hi, hn, hz, hv, hc⟩ := (staysWithin i s t h).flags
  exact ⟨hh, hi, hn, hz, hv, hc⟩

/-- Settles O25: the cells that no store of the footprint reaches, and the reads that return them. -/
theorem execStoresOnlyWhereItSays : Obligations.ExecStoresOnlyWhereItSays := by
  intro i s t h
  have haccesses := (staysWithin i s t h).accesses
  refine ⟨fun cell => haccesses.mem, fun b cell hb hcell => ?_, fun addr hplain =>
    ⟨ramCell_plain hplain, readCell_plain hplain⟩⟩
  rw [State.peek_of_readCell hb, State.peek_of_readCell (haccesses.cfg ▸ hb), haccesses.mem hcell]

/-- Settles O26: the accesses of the footprint outside the window, and those to no device. -/
theorem execTouchesPeripheralsOnlyThroughWindow : Obligations.ExecTouchesPeripheralsOnlyThroughWindow := by
  intro i s t h
  have haccesses := (staysWithin i s t h).accesses
  exact ⟨haccesses.peripherals, haccesses.devLog⟩

end Sys2Proof.Machine

/-!
Proofs about a decimal addition with a carry, and about what the stack gives back: an entry and RTI, a call and RTS.
-/

namespace Sys2Proof.Machine

open Sys2Proof.Claims Sys2Proof.Laws

/-! BCD addition (95_test_vectors.md S3). -/

theorem bcd_toNat_eq_zero {n : Nat} (h : n < 100) : (bcd n).toNat = 0 ↔ n = 0 := by
  rw [toNat_bcd h]
  omega

theorem bcd_msb {n : Nat} (h : n < 100) : (bcd n).msb = decide (80 ≤ n) := by
  rw [BitVec.msb_eq_decide, toNat_bcd h, decide_eq_decide]
  omega

/-- Settles O34: the adjustment of a decimal sum, with the flags of a number in BCD. -/
theorem bcdAdditionWithCarry : Obligations.BcdAdditionWithCarry := by
  intro p q s hp hq ha
  obtain ⟨hresult, hcarry⟩ := daa_addRes_bcd hp hq s.cc.c
  rw [← ha] at hresult hcarry
  have hlt : (p + q + s.cc.c.toNat) % 100 < 100 := Nat.mod_lt _ (by decide)
  refine ⟨_, _, exec_adc .A _ s, exec_daa_eq _, hresult, hcarry, ?_, ?_⟩
  · refine Eq.trans (decide_eq_decide.mpr ?_) rfl
    exact (iff_of_eq (congrArg (BitVec.toNat · = 0) hresult)).trans (bcd_toNat_eq_zero hlt)
  · exact (congrArg BitVec.msb hresult).trans (bcd_msb hlt)

/-! Bytes pushed to ordinary memory and read again. -/

theorem readUp_plain {u : State} {n : Nat} {a : Word} (h : PlainRange u.cfg a n) :
    readUp u a n = ((List.range n).map fun k => u.mem.read (a + BitVec.ofNat 16 k), u) := by
  induction n generalizing a with
  | zero => rfl
  | succ n ih =>
    have hfirst : plainAddr u.cfg a = true := by simpa using h 0 (Nat.succ_pos n)
    have hrest : PlainRange u.cfg (a + 1#16) n := fun k hk => by
      simpa only [word_add_one_add_ofNat] using h (k + 1) (Nat.succ_lt_succ hk)
    simp only [readUp, State.read8_plain hfirst, ih hrest, List.range_succ_eq_map, List.map_cons, List.map_map,
      word_add_one_add_ofNat, Function.comp_def, BitVec.add_zero]

/-- A byte apart from those written holds what it held. -/
theorem writeDown_mem_other {l : List Byte} {s : State} {a cell : Word}
    (h : ∀ k < l.length, ramCell s.cfg (a - BitVec.ofNat 16 k) ≠ some cell) :
    (writeDown s a l).mem.read cell = s.mem.read cell := by
  induction l generalizing s a with
  | nil => rfl
  | cons v l ih =>
    have hfirst : ramCell s.cfg a ≠ some cell := by simpa using h 0 (Nat.succ_pos _)
    refine (ih fun k hk => ?_).trans (State.write8_mem_other v hfirst)
    simpa [BitVec.sub_sub, ← BitVec.ofNat_add, Nat.add_comm] using h (k + 1) (Nat.succ_lt_succ hk)

/-- The bytes written downwards stand at their addresses: a later one goes elsewhere. -/
theorem writeDown_mem_read {l : List Byte} {s : State} {a : Word} (hlen : l.length ≤ 65536)
    (h : ∀ k < l.length, plainAddr s.cfg (a - BitVec.ofNat 16 k) = true) {k : Nat} (hk : k < l.length) :
    (writeDown s a l).mem.read (a - BitVec.ofNat 16 k) = l[k] := by
  induction l generalizing s a k with
  | nil => cases hk
  | cons v l ih =>
    have hfirst : plainAddr s.cfg a = true := by simpa using h 0 (Nat.succ_pos _)
    have hrest : ∀ k < l.length, plainAddr (s.write8 a v).cfg (a - 1#16 - BitVec.ofNat 16 k) = true := fun k hk => by
      simpa [BitVec.sub_sub, ← BitVec.ofNat_add, Nat.add_comm] using h (k + 1) (Nat.succ_lt_succ hk)
    rw [List.length_cons] at hlen
    cases k with
    | zero =>
      have hapart : ∀ k < l.length, ramCell (s.write8 a v).cfg (a - 1#16 - BitVec.ofNat 16 k) ≠ some a := fun k hk => by
        rw [ramCell_plain (hrest k hk)]
        intro heq
        have := Option.some.inj heq
        bv_omega
      rw [BitVec.sub_zero, writeDown, writeDown_mem_other hapart, State.write8_plain v hfirst]
      simp
    | succ k =>
      have := ih (by omega) hrest (Nat.lt_of_succ_lt_succ hk)
      simpa [writeDown, BitVec.sub_sub, ← BitVec.ofNat_add, Nat.add_comm] using this

/-- Reading upwards returns the bytes written downwards, last first. -/
theorem readUp_of_writeDown {s u : State} {l : List Byte} {a : Word} (hlen : l.length ≤ 65536)
    (hplain : PlainRange s.cfg a l.length) (hcfg : u.cfg = s.cfg)
    (hmem : u.mem = (writeDown s (a + BitVec.ofNat 16 (l.length - 1)) l).mem) :
    readUp u a l.length = (l.reverse, u) := by
  have haddr : ∀ k < l.length, a + BitVec.ofNat 16 (l.length - 1) - BitVec.ofNat 16 k =
      a + BitVec.ofNat 16 (l.length - 1 - k) := fun k hk => by
    apply BitVec.eq_of_toNat_eq
    simp only [BitVec.toNat_add, BitVec.toNat_sub, BitVec.toNat_ofNat]
    omega
  have hread : ∀ k (hk : k < l.length), u.mem.read (a + BitVec.ofNat 16 (l.length - 1 - k)) = l[k] := fun k hk => by
    rw [hmem, ← haddr k hk]
    exact writeDown_mem_read hlen (fun j hj => haddr j hj ▸ hplain _ (by omega)) hk
  rw [readUp_plain (hcfg ▸ hplain)]
  congr 1
  refine List.ext_getElem (by simp) fun k hk hk' => ?_
  rw [List.length_reverse] at hk'
  rw [List.getElem_map, List.getElem_range, List.getElem_reverse, ← hread _ (by omega)]
  congr 2
  congr 1
  omega

/-! An entry and RTI (R272, R376). -/

theorem CC.ofByte_toByte (f : CC) : CC.ofByte f.toByte = f := by
  simp only [CC.toByte_eq_concat, CC.ofByte, BitVec.getLsbD_concat]
  rfl

/-- Settles O13: RTI reads the bytes of the frame in the reverse of the order in which the entry wrote them. -/
theorem entryThenRtiRestores : Obligations.EntryThenRtiRestores := by
  intro s vec hready
  obtain ⟨⟨-, -, -, -, hmode, -⟩, -, -, haccesses⟩ := within_interruptEntry s vec
  have hsp : (s.interruptEntry vec).sp = s.sp - 7#16 := by rw [State.interruptEntry_eq, entered]
  have hmem : (s.interruptEntry vec).mem = (writeDown s (s.sp - 6#16 + 6#16) (frame s)).mem := by
    rw [State.interruptEntry_eq, BitVec.sub_add_cancel]
    exact State.read16_mem _ _
  have hframe : readUp (s.interruptEntry vec) (s.sp - 6#16) 7 = ((frame s).reverse, s.interruptEntry vec) :=
    readUp_of_writeDown (l := frame s) (by simp [frame]) hready haccesses.cfg hmem
  have hfirst : s.sp - 7#16 + 1#16 = s.sp - 6#16 := by bv_omega
  refine ⟨_, exec_rti _, ?_⟩
  rw [State.returnFromInterrupt_eq_pullBytes, State.pullBytes_eq, hsp, hfirst, hframe]
  exact ⟨rfl, rfl, joinBytes_hi_lo s.x, joinBytes_hi_lo s.pc, BitVec.sub_add_cancel .., CC.ofByte_toByte s.cc,
    hmode rfl, rfl⟩

/-! A call and RTS (R248 to R250). -/

/-- The word pushed last is the word pulled. -/
theorem State.pull16_of_push16 {s u : State} {v : Word} (hready : PlainRange s.cfg (s.sp - 1#16) 2)
    (hcfg : u.cfg = s.cfg) (hsp : u.sp = (s.push16 v).sp) (hmem : u.mem = (s.push16 v).mem) :
    u.pull16 = (v, u.setSp s.sp) := by
  rw [State.push16_eq] at hsp hmem
  have hword : readUp u (s.sp - 1#16) 2 = ([hiByte v, loByte v], u) := by
    refine readUp_of_writeDown (l := [loByte v, hiByte v]) (by simp) hready hcfg (hmem.trans ?_)
    exact congrArg (fun a => (writeDown s a _).mem) (BitVec.sub_add_cancel s.sp 1#16).symm
  have hfirst : s.sp - 2#16 + 1#16 = s.sp - 1#16 := by bv_omega
  rw [State.pull16_eq, hsp, State.setSp_sp, hfirst, hword, BitVec.sub_add_cancel]
  exact congrArg (·, _) (joinBytes_hi_lo v)

theorem State.returnFromCall_call {s : State} (hready : PlainRange s.cfg (s.sp - 1#16) 2) (dest : Word) :
    (s.call dest).returnFromCall = ((s.call dest).setSp s.sp).setPc s.pc := by
  have hpull := State.pull16_of_push16 (u := s.call dest) (v := s.pc) hready (by simp [State.call]) rfl rfl
  rw [State.returnFromCall, hpull]

/-- Settles O45: RTS pulls the word that the call pushed. -/
theorem callThenReturn : Obligations.CallThenReturn := by
  intro s hready
  refine ⟨fun i hcall => ?_, fun v => State.pull16_of_push16 hready (by simp) rfl rfl⟩
  obtain ⟨dest, hexec⟩ : ∃ dest, exec i s = .next (s.call dest) := by
    rcases hcall with ⟨m, rfl⟩ | ⟨rr, rfl⟩
    · exact ⟨_, exec_jsr m s⟩
    · exact ⟨_, exec_bsr rr s⟩
  refine ⟨_, _, hexec, exec_rts _, ?_⟩
  rw [State.returnFromCall_call hready]
  simp [State.call]

end Sys2Proof.Machine

/-!
Proofs about the poll, the step that takes an interrupt, and the reset sequence (spec/60_exceptions.md,
spec/70_reset_and_hazards.md).
-/

namespace Sys2Proof.Machine

open Sys2Proof.Claims Sys2Proof.Laws

/-! The poll (R371, R372). -/

/-- The first element that meets `p` of a list sorted by `f` is the one of least `f`. -/
theorem find?_eq_some_iff_of_sorted {α : Type} {p : α → Bool} {f : α → Nat} {l : List α} (hsorted : l.Pairwise (f · < f ·))
    (a : α) : l.find? p = some a ↔ a ∈ l ∧ p a = true ∧ ∀ b ∈ l, f b < f a → p b = false := by
  induction l with
  | nil => simp
  | cons x l ih =>
    obtain ⟨hfirst, hrest⟩ := List.pairwise_cons.mp hsorted
    cases hx : p x with
    | true =>
      rw [List.find?_cons_of_pos hx, Option.some.injEq]
      constructor
      · rintro rfl
        refine ⟨List.mem_cons_self, hx, fun b hb hlt => ?_⟩
        rcases List.mem_cons.mp hb with rfl | hb
        · exact absurd hlt (Nat.lt_irrefl _)
        · exact absurd hlt (Nat.lt_asymm (hfirst b hb))
      · rintro ⟨ha, -, hleast⟩
        rcases List.mem_cons.mp ha with rfl | ha
        · rfl
        · exact absurd (hleast x List.mem_cons_self (hfirst a ha)) (by simp [hx])
    | false =>
      rw [List.find?_cons_of_neg (by simp [hx]), ih hrest, List.mem_cons]
      constructor
      · rintro ⟨ha, hp, hleast⟩
        refine ⟨.inr ha, hp, fun b hb hlt => ?_⟩
        rcases List.mem_cons.mp hb with rfl | hb
        · exact hx
        · exact hleast b hb hlt
      · rintro ⟨ha, hp, hleast⟩
        refine ⟨ha.resolve_left ?_, hp, fun b hb => hleast b (List.mem_cons_of_mem _ hb)⟩
        rintro rfl
        simp [hx] at hp

theorem mem_pollOrder (src : Source) : src ∈ pollOrder := by
  cases src <;> decide

theorem pollOrder_sorted : pollOrder.Pairwise (rank · < rank ·) := by decide

theorem State.poll_eq_some_iff (s : State) (src : Source) : s.poll = some src ↔
    s.requests src = true ∧ ∀ other, rank other < rank src → s.requests other = false := by
  simp [State.poll, find?_eq_some_iff_of_sorted pollOrder_sorted, mem_pollOrder]

theorem State.poll_eq_none_iff (s : State) : s.poll = none ↔ ∀ src, s.requests src = false := by
  simp [State.poll, mem_pollOrder]

/-- Settles O9: the conditions are those of R371, and the order of R372 is the order of the ranks. -/
theorem pollFollowsPriority : Obligations.PollFollowsPriority := by
  refine fun s => ⟨rfl, rfl, rfl, ?_, ?_, ?_, rfl, s.poll_eq_some_iff, s.poll_eq_none_iff⟩
  all_goals exact (Bool.and_assoc ..).symm

/-! The step that takes an interrupt (R121, R374, R376). -/

theorem State.takeInterrupt_eq (s : State) (src : Source) : s.takeInterrupt src =
    entered { s with mode := .run, nmiPend := s.nmiPend && decide (src ≠ .nmi) } (s.cfg.vec src) := by
  cases src with
  | nmi => simp [State.takeInterrupt, State.setMode, State.interruptEntry_eq]
  | reset | irq | icf | ocf | tof | sci => simp [State.takeInterrupt, State.setMode, State.interruptEntry_eq]

theorem step_of_poll_interrupt {s : State} {src : Source} (hwf : s.cfg.wf = true) (hpoll : s.poll = some src)
    (hsrc : src ≠ .reset) : step s = .next ((s.takeInterrupt src).account s.cfg.cInt) := by
  cases src with
  | reset => exact absurd rfl hsrc
  | nmi | irq | icf | ocf | tof | sci => simp [step, State.dispatchStep, hwf, hpoll]

/-- Settles O11: the step is the entry and its accounting. -/
theorem interruptIsTakenByTheStep : Obligations.InterruptIsTakenByTheStep := by
  intro s src hwf hpoll hsrc
  refine ⟨_, step_of_poll_interrupt hwf hpoll hsrc, ?_⟩
  rw [← State.takeInterrupt_eq]
  exact State.account_charged _ (Config.costs_pos hwf).2.1

/-! The reset sequence (R400). -/

/-- The peripherals have no flag for a read to arm or clear, as after a reset. -/
def State.FreshFlags (u : State) : Prop := u.tim.tcsr = 0x00#8 ∧ u.tim.tpend = 0x00#8 ∧ u.sci.trcsr = 0x20#8

theorem State.windowReadEffect_fresh {u : State} (h : u.FreshFlags) (r : WindowReg) : u.windowReadEffect r = u := by
  obtain ⟨htcsr, htpend, htrcsr⟩ := h
  have harm : u.tim.armFlags = u.tim := by
    have hflags : u.tim.tcsr &&& tcsrFlags = u.tim.tpend := by rw [htcsr, htpend, BitVec.zero_and]
    rw [Timer.armFlags, hflags]
  have hclear (f : TFlag) : u.tim.clearIfArmed f = u.tim := by simp [Timer.clearIfArmed, Timer.armed, htpend]
  have htake : u.sci.takeRdr = u.sci := by
    rw [Sci.takeRdr, htrcsr]
    exact congrArg (fun v => { u.sci with trcsr := v }) htrcsr.symm
  cases r with
  | tcsr => simp [State.windowReadEffect, harm]
  | rdr => simp [State.windowReadEffect, htake]
  | ch | cl | ocrh | icrh => simp [State.windowReadEffect, hclear]
  | ocrl | icrl | rmcr | trcsr | tdr => rfl

theorem State.readEffect_fresh {u : State} (h : u.FreshFlags) (addr : Word) :
    ∃ log, u.readEffect addr = { u with devLog := log } := by
  unfold State.readEffect
  split
  next r hw => exact ⟨_, State.windowReadEffect_fresh h r⟩
  next hw => unfold State.extReadEffect; split <;> exact ⟨_, rfl⟩

theorem State.read16_fresh {u : State} (h : u.FreshFlags) (addr : Word) :
    ∃ log, (u.read16 addr).2 = { u with devLog := log } := by
  obtain ⟨first, hfirst⟩ := State.readEffect_fresh h addr
  obtain ⟨second, hsecond⟩ := State.readEffect_fresh (u := { u with devLog := first }) h (addr + 1#16)
  exact ⟨second, by rw [State.read16, State.read8, State.read8, hfirst, hsecond]⟩

/-- The sequence gives the registers their values, then reads the vector, which changes none of them. -/
theorem State.resetSequence_afterReset (s : State) : AfterReset s s.resetSequence := by
  have hfresh : s.resetRegisters.FreshFlags := ⟨rfl, rfl, rfl⟩
  obtain ⟨log, hlog⟩ := State.read16_fresh hfresh s.cfg.vecReset
  have heq : s.resetSequence = { s.resetRegisters with
      devLog := log, pc := (s.resetRegisters.read16 s.cfg.vecReset).1 } := by
    rw [State.resetSequence, State.jumpVector, hlog]
    rfl
  have hread := s.resetRegisters.read16_setPc (s.resetRegisters.read16 s.cfg.vecReset).1 s.cfg.vecReset
  rw [heq]
  exact {
    latches := ⟨rfl, rfl⟩, mode := rfl, mask := rfl, counter := ⟨rfl, rfl⟩, timer := ⟨rfl, rfl, rfl⟩
    serial := ⟨rfl, rfl, rfl, rfl⟩, serialHidden := ⟨rfl, rfl, rfl, rfl⟩, lines := ⟨rfl, rfl, rfl, rfl⟩
    counts := ⟨rfl, rfl⟩, memory := rfl, cfg := rfl
    entry := by
      refine Eq.trans ?_ (congrArg (fun r : Word × State => (r.1, r.2.devLog)) hread).symm
      exact congrArg (Prod.mk _) (congrArg State.devLog hlog).symm }

theorem step_of_reset {s : State} (hwf : s.cfg.wf = true) (hreset : s.rstPend = true) :
    step s = .next s.resetSequence := by
  have hpoll : s.poll = some .reset := (s.poll_eq_some_iff .reset).mpr ⟨hreset, fun _ h => absurd h (Nat.not_lt_zero _)⟩
  simp [step, State.dispatchStep, hwf, hpoll, State.account_zero]

/-- Settles O10: the host's reset is the sequence, and the step of the latch costs nothing. -/
theorem resetSequenceValues : Obligations.ResetSequenceValues :=
  fun s => ⟨s.resetSequence_afterReset, fun hwf hreset => ⟨_, step_of_reset hwf hreset, s.resetSequence_afterReset⟩⟩

end Sys2Proof.Machine

/-!
Proofs about the UART: the prescaler, the transmitter, the receiver, the wire between them, and the wake-up hold
(spec/48_serial.md).
-/

namespace Sys2Proof.Machine

open Sys2Proof.Claims Sys2Proof.Laws

/-! The transmitter's half of a tick, state by state (R342). -/

section
variable {u : Sci}

theorem Sci.txTick_off (h : u.te = false) : u.txTick = u := by
  simp [Sci.txTick, h]

theorem Sci.txTick_waiting (h : u.te = true) (hst : u.txst = .idle) (htdre : u.tdre = true) :
    u.txTick = { u with txdLine := true } := by
  simp [Sci.txTick, h, hst, htdre]

theorem Sci.txTick_load (h : u.te = true) (hst : u.txst = .idle) (htdre : u.tdre = false) :
    u.txTick = { u with tsr := u.tdr, trcsr := u.trcsr ||| 0x20#8, txdLine := false, txst := .data 0 } := by
  simp [Sci.txTick, h, hst, htdre]

theorem Sci.txTick_data {i : Fin 8} (h : u.te = true) (hst : u.txst = .data i) :
    u.txTick = { u with txdLine := u.tsr.getLsbD 0, tsr := u.tsr >>> 1, txst := .afterBit i } := by
  simp [Sci.txTick, h, hst]

theorem Sci.txTick_stop (h : u.te = true) (hst : u.txst = .stop) :
    u.txTick = { u with txdLine := true, txst := .idle } := by
  simp [Sci.txTick, h, hst]

/-! The receiver's half of a tick (R345). -/

theorem Sci.rxTick_off (h : u.re = false) : u.rxTick = { u with rxprev := u.rxdLine } := by
  simp [Sci.rxTick, h]

theorem Sci.rxTick_waking (h : u.re = true) (hwu : u.wu = true) :
    u.rxTick = { u.rxWakeUp u.rxdLine with rxprev := u.rxdLine } := by
  simp [Sci.rxTick, h, hwu]

theorem Sci.rxTick_receiving (h : u.re = true) (hwu : u.wu = false) :
    u.rxTick = { u.rxFrame u.rxdLine with rxprev := u.rxdLine } := by
  simp [Sci.rxTick, h, hwu]

/-- What the receiver's half of a tick leaves as the transmitter's half made it. -/
theorem Sci.tick_transmitter (c : Config) (u : Sci) :
    (u.tick c).txst = u.txTick.txst ∧ (u.tick c).txdLine = u.txTick.txdLine ∧ (u.tick c).tsr = u.txTick.tsr ∧
      (u.tick c).tdre = u.txTick.tdre := by
  have hwire : (u.txTick.wire c).txst = u.txTick.txst ∧ (u.txTick.wire c).txdLine = u.txTick.txdLine ∧
      (u.txTick.wire c).tsr = u.txTick.tsr ∧ (u.txTick.wire c).tdre = u.txTick.tdre := by
    unfold Sci.wire
    split <;> exact ⟨rfl, rfl, rfl, rfl⟩
  unfold Sci.tick
  generalize u.txTick.wire c = w at hwire
  obtain ⟨hst, hline, htsr, htdre⟩ := hwire
  have hrx : w.rxTick.tdre = w.tdre := by
    unfold Sci.tdre
    rcases w.rxTick_trcsr with h | h | h | h <;> simp [h]
  rw [hrx, w.rxTick_frame]
  exact ⟨hst, hline, htsr, htdre⟩

end

/-! Serial ticks (R340, R341): neither half of a tick sees the prescaler. -/

/-- The UART with another value in its prescaler. -/
def Sci.setSdiv (u : Sci) (n : Nat) : Sci := { u with sdiv := n }

section
variable (u : Sci) (n : Nat) (l : Bool)

theorem Sci.txTick_setSdiv : (u.setSdiv n).txTick = u.txTick.setSdiv n := by
  cases hte : u.te with
  | false => rw [Sci.txTick_off hte, Sci.txTick_off (u := u.setSdiv n) hte]
  | true =>
    cases hst : u.txst with
    | idle =>
      cases htdre : u.tdre with
      | true => rw [Sci.txTick_waiting hte hst htdre, Sci.txTick_waiting (u := u.setSdiv n) hte hst htdre]; rfl
      | false => rw [Sci.txTick_load hte hst htdre, Sci.txTick_load (u := u.setSdiv n) hte hst htdre]; rfl
    | data i => rw [Sci.txTick_data hte hst, Sci.txTick_data (u := u.setSdiv n) hte hst]; rfl
    | stop => rw [Sci.txTick_stop hte hst, Sci.txTick_stop (u := u.setSdiv n) hte hst]; rfl

theorem Sci.rxWakeUp_setSdiv : (u.setSdiv n).rxWakeUp l = (u.rxWakeUp l).setSdiv n := by
  simp only [Sci.rxWakeUp, apply_ite (Sci.setSdiv · n)]
  rfl

theorem Sci.rxStop_setSdiv : (u.setSdiv n).rxStop l = (u.rxStop l).setSdiv n := by
  simp only [Sci.rxStop, apply_ite (Sci.setSdiv · n)]
  rfl

theorem Sci.rxFrame_setSdiv : (u.setSdiv n).rxFrame l = (u.rxFrame l).setSdiv n := by
  have hst : (u.setSdiv n).rxst = u.rxst := rfl
  unfold Sci.rxFrame
  rw [hst]
  cases u.rxst with
  | idle => simp only [apply_ite (Sci.setSdiv · n)]; rfl
  | data i => rfl
  | stop => exact Sci.rxStop_setSdiv u n l

theorem Sci.rxTick_setSdiv : (u.setSdiv n).rxTick = u.rxTick.setSdiv n := by
  cases hre : u.re with
  | false => rw [Sci.rxTick_off hre, Sci.rxTick_off (u := u.setSdiv n) hre]; rfl
  | true =>
    cases hwu : u.wu with
    | true =>
      rw [Sci.rxTick_waking hre hwu, Sci.rxTick_waking (u := u.setSdiv n) hre hwu, Sci.rxWakeUp_setSdiv]; rfl
    | false =>
      rw [Sci.rxTick_receiving hre hwu, Sci.rxTick_receiving (u := u.setSdiv n) hre hwu, Sci.rxFrame_setSdiv]; rfl

end

section
variable (c : Config)

theorem Sci.wire_setSdiv (u : Sci) (n : Nat) : (u.setSdiv n).wire c = (u.wire c).setSdiv n := by
  unfold Sci.wire
  split <;> rfl

theorem Sci.tick_setSdiv (u : Sci) (n : Nat) : (u.setSdiv n).tick c = (u.tick c).setSdiv n := by
  rw [Sci.tick, Sci.txTick_setSdiv, Sci.wire_setSdiv, Sci.rxTick_setSdiv, Sci.tick]

theorem ticks_setSdiv (k : Nat) (u : Sci) (n : Nat) : ticks c k (u.setSdiv n) = (ticks c k u).setSdiv n := by
  induction k generalizing u with
  | zero => rfl
  | succ k ih => rw [ticks, Sci.tick_setSdiv, ih, ticks]

theorem Sci.divisor_eq_of_rmcr {u w : Sci} (h : w.rmcr = u.rmcr) : w.divisor c = u.divisor c := by
  rw [Sci.divisor, h, Sci.divisor]

/-- The loop takes a divisor off for each tick. -/
theorem Sci.drain_eq {u : Sci} (hpos : 0 < u.divisor c) {fuel : Nat} (hfuel : u.sdiv ≤ fuel) :
    u.drain c fuel = (ticks c (u.sdiv / u.divisor c) u).setSdiv (u.sdiv % u.divisor c) := by
  induction fuel generalizing u with
  | zero =>
    have hzero : u.sdiv = 0 := Nat.le_zero.mp hfuel
    simp only [Sci.drain, Nat.zero_div, Nat.zero_mod, ticks, hzero]
    rw [← hzero]
    rfl
  | succ fuel ih =>
    rw [Sci.drain]
    split
    next hle =>
      obtain ⟨hsdiv, hrmcr, -⟩ := (u.setSdiv (u.sdiv - u.divisor c)).tick_keeps c
      have hdivisor : ((u.setSdiv (u.sdiv - u.divisor c)).tick c).divisor c = u.divisor c := Sci.divisor_eq_of_rmcr c hrmcr
      have hrest := ih (u := (u.setSdiv (u.sdiv - u.divisor c)).tick c) (by rw [hdivisor]; exact hpos) (by
        rw [hsdiv]
        change u.sdiv - u.divisor c ≤ fuel
        omega)
      rw [hsdiv, hdivisor] at hrest
      refine hrest.trans ?_
      rw [Sci.tick_setSdiv, ticks_setSdiv, Nat.div_eq_sub_div hpos hle, Nat.mod_eq_sub_mod hle]
      rfl
    next hlt =>
      rw [Nat.div_eq_of_lt (by omega), Nat.mod_eq_of_lt (by omega)]
      rfl

end

theorem Sci.divisor_eq_getD (c : Config) (u : Sci) :
    u.divisor c = [c.baud0, c.baud1, c.baud2, c.baud3].getD (u.rmcr.toNat % 4) 0 := by
  have hselect : (u.rmcr.extractLsb' 0 2).toNat = u.rmcr.toNat % 4 := by simp [BitVec.extractLsb'_toNat]
  have hlt : u.rmcr.toNat % 4 < 4 := Nat.mod_lt _ (by decide)
  rw [Sci.divisor, hselect]
  interval_cases u.rmcr.toNat % 4 <;> rfl

theorem Sci.externalClock_eq (u : Sci) : u.externalClock = decide (u.rmcr.toNat / 4 = 3) := by
  have hlt := u.rmcr.isLt
  rw [Sci.externalClock, Bool.eq_iff_iff, beq_iff_eq, decide_eq_true_iff, ← BitVec.toNat_inj, BitVec.extractLsb'_toNat,
    Nat.shiftRight_eq_div_pow]
  simp only [BitVec.toNat_ofNat]
  omega

/-- Settles O56: the loop in closed form, and the two sources of ticks. -/
theorem serialAdvanceMakesTicks : Obligations.SerialAdvanceMakesTicks := by
  intro c u n hwf
  refine ⟨fun hinternal => ?_, fun hexternal => ?_, fun hinternal => ?_, fun hopen => ?_, u.divisor_eq_getD c,
    u.externalClock_eq, rfl, rfl, rfl, rfl⟩
  · have hdrain := Sci.drain_eq c (u := u.setSdiv (u.sdiv + n)) (Sci.divisor_pos hwf _) (Nat.le_refl _)
    rw [ticks_setSdiv] at hdrain
    simp only [Sci.advance, hinternal, Bool.false_eq_true, if_false]
    exact hdrain
  · have hclock : u.clock c = u.tick c := by simp [Sci.clock, hexternal]
    exact ⟨by simp [Sci.advance, hexternal], hclock, hclock ▸ (u.tick_keeps c).1⟩
  · simp [Sci.clock, hinternal]
  · simp [Sci.tick, Sci.wire, hopen]

/-! A frame sent (R342, R343). -/

/-- The state of a machine that has `n` data bits of a frame before it. -/
def FrameState.bitsLeft : Nat → FrameState
  | 0 => .stop
  | n + 1 => .data (Fin.rev (Fin.ofNat 8 n))

theorem FrameState.afterBit_bitsLeft : ∀ n < 8, FrameState.afterBit (Fin.rev (Fin.ofNat 8 n)) = .bitsLeft n := by decide

theorem Sci.txTick_bitsLeft {u : Sci} {n : Nat} (hn : n < 8) (h : u.te = true) (hst : u.txst = .bitsLeft (n + 1)) :
    u.txTick = { u with txdLine := u.tsr.getLsbD 0, tsr := u.tsr >>> 1, txst := .bitsLeft n } := by
  rw [Sci.txTick_data h hst, FrameState.afterBit_bitsLeft n hn]

/-- The bits of `TSR` go out from its lowest, then the stop bit. -/
theorem txdLevels_bitsLeft (c : Config) {n : Nat} (hn : n ≤ 8) {u : Sci} (h : u.te = true) (hst : u.txst = .bitsLeft n) :
    txdLevels c (n + 1) u = (List.range n).map u.tsr.getLsbD ++ [true] ∧ (ticks c (n + 1) u).txst = .idle ∧
      (ticks c (n + 1) u).tdre = u.tdre := by
  obtain ⟨hst', hline, htsr, htdre⟩ := u.tick_transmitter c
  induction n generalizing u with
  | zero =>
    rw [Sci.txTick_stop h hst] at hst' hline htdre
    exact ⟨congrArg (fun l => [l]) hline, hst', htdre⟩
  | succ n ih =>
    rw [Sci.txTick_bitsLeft hn h hst] at hst' hline htsr htdre
    obtain ⟨-, -, -, hte⟩ := u.tick_enables c
    obtain ⟨hlevels, hidle, hkept⟩ := ih (Nat.le_of_succ_le hn) (hte.trans h) hst' ((u.tick c).tick_transmitter c).1
      ((u.tick c).tick_transmitter c).2.1 ((u.tick c).tick_transmitter c).2.2.1 ((u.tick c).tick_transmitter c).2.2.2
    refine ⟨?_, hidle, hkept.trans htdre⟩
    rw [txdLevels, hlevels, hline, htsr, List.range_succ_eq_map, List.map_cons, List.map_map]
    congr 3
    funext i
    simp [Nat.add_comm]

/-- Settles O57: the machine's cases, then the load, the data bits and the stop bit of a frame. -/
theorem transmitterSendsTheFrame : Obligations.TransmitterSendsTheFrame := by
  refine ⟨fun u => ⟨Sci.txTick_off, Sci.txTick_waiting, Sci.txTick_load, fun i h hst => ?_, Sci.txTick_stop⟩,
    fun c u h hst htdre => ?_⟩
  · have hhalf : u.tsr >>> 1 = BitVec.ofNat 8 (u.tsr.toNat / 2) := by
      rw [← BitVec.toNat_inj, BitVec.toNat_ushiftRight, BitVec.toNat_ofNat]
      omega
    rw [Sci.txTick_data h hst, hhalf]
    rfl
  · obtain ⟨hst', hline, htsr, htdre'⟩ := u.tick_transmitter c
    obtain ⟨-, -, -, hte⟩ := u.tick_enables c
    rw [Sci.txTick_load h hst htdre] at hst' hline htsr htdre'
    obtain ⟨hlevels, hidle, hkept⟩ := txdLevels_bitsLeft c (Nat.le_refl 8) (hte.trans h) hst'
    have hset : (u.tick c).tdre = true := htdre'.trans (by simp [Sci.tdre])
    refine ⟨?_, hset, hkept.trans hset, hidle, htsr⟩
    rw [txdLevels, hlevels, hline, htsr]
    rfl

end Sys2Proof.Machine

/-!
Proofs about the receiver: a frame, the wire from the transmitter, and the wake-up hold (spec/48_serial.md section 5).
-/

namespace Sys2Proof.Machine

open Sys2Proof.Claims Sys2Proof.Laws

/-! A frame received (R345). -/

/-- A data bit enters `RSR` at the top (R345). -/
def shiftIn (r : Byte) (l : Bool) : Byte := (r >>> 1) ||| (if l then 0x80#8 else 0x00#8)

/-- Bits set outside a mask do not show under it. -/
theorem or_and_of_and_eq_zero {w : Nat} {x y m : BitVec w} (h : y &&& m = 0#w) : (x ||| y) &&& m = x &&& m := by
  rw [BitVec.and_or_distrib_right, h, BitVec.or_zero]

theorem receive_append (u : Sci) (first second : List Bool) :
    receive u (first ++ second) = receive (receive u first) second := by
  induction first generalizing u with
  | nil => rfl
  | cons l first ih => exact ih _

section
variable {u : Sci} (hre : u.re = true) (hwu : u.wu = false)
include hre hwu

theorem receive_start (hst : u.rxst = .idle) (hprev : u.rxprev = true) :
    receive u [false] = { u with rxdLine := false, rxprev := false, rxst := .bitsLeft 8 } := by
  rw [receive, receive, Sci.rxTick_receiving (u := { u with rxdLine := false }) hre hwu]
  simp only [Sci.rxFrame, hst, hprev]
  rfl

theorem rxTick_bitsLeft {n : Nat} (hn : n < 8) (hst : u.rxst = .bitsLeft (n + 1)) (l : Bool) :
    { u with rxdLine := l }.rxTick =
      { u with rxdLine := l, rxprev := l, rsr := shiftIn u.rsr l, rxst := .bitsLeft n } := by
  rw [Sci.rxTick_receiving (u := { u with rxdLine := l }) hre hwu]
  simp only [Sci.rxFrame, hst, FrameState.bitsLeft, FrameState.afterBit_bitsLeft n hn]
  rfl

/-- The data bits of a frame go into `RSR`, and nothing else is stored. -/
theorem receive_bitsLeft {bits : List Bool} (hlen : bits.length ≤ 8) (hst : u.rxst = .bitsLeft bits.length) :
    receive u bits = { u with rxdLine := bits.getLastD u.rxdLine, rxprev := bits.getLastD u.rxprev
                              rsr := bits.foldl shiftIn u.rsr, rxst := .stop } := by
  induction bits generalizing u with
  | nil =>
    have hstop : u.rxst = .stop := hst
    rw [receive, ← hstop]
    rfl
  | cons l bits ih =>
    rw [receive, rxTick_bitsLeft hre hwu hlen hst]
    rw [List.getLastD_cons, List.getLastD_cons, List.foldl_cons]
    exact ih hre hwu (Nat.le_of_succ_le hlen) rfl

theorem receive_stop (hst : u.rxst = .stop) (l : Bool) :
    receive u [l] = { { u with rxdLine := l }.rxStop l with rxprev := l } := by
  rw [receive, receive, Sci.rxTick_receiving (u := { u with rxdLine := l }) hre hwu]
  simp only [Sci.rxFrame, hst]

end

theorem getLsbD_shiftIn (r : Byte) (l : Bool) {j : Nat} (hj : j < 8) :
    (shiftIn r l).getLsbD j = if j = 7 then l else r.getLsbD (j + 1) := by
  cases l with
  | false =>
    split
    next h => simp [shiftIn, h]
    next h => simp [shiftIn, Nat.add_comm]
  | true => interval_cases j <;> simp [shiftIn]

/-- Bits shifted in stand at the top in their order, above what is left of the register. -/
theorem getLsbD_foldl_shiftIn {bits : List Bool} (hlen : bits.length ≤ 8) (r : Byte) {j : Nat} (hj : j < 8) :
    (bits.foldl shiftIn r).getLsbD j =
      if j + bits.length < 8 then r.getLsbD (j + bits.length) else bits.getD (j + bits.length - 8) false := by
  induction bits generalizing r with
  | nil => simp [hj]
  | cons l bits ih =>
    rw [List.length_cons] at hlen
    rw [List.foldl_cons, ih (by omega), List.length_cons, ← Nat.add_assoc]
    rcases Nat.lt_trichotomy (j + bits.length) 7 with h | h | h
    · rw [if_pos (by omega), if_pos (by omega), getLsbD_shiftIn r l (by omega), if_neg (by omega)]
    · rw [if_pos (by omega), if_neg (by omega), getLsbD_shiftIn r l (by omega), if_pos h, h]
      rfl
    · rw [if_neg (by omega), if_neg (by omega), Nat.sub_add_comm (Nat.succ_le_of_lt h), List.getD_cons_succ]

/-- Eight bits shifted in, the lowest first, fill the register. -/
theorem foldl_shiftIn_dataBits (r v : Byte) : (dataBits v).foldl shiftIn r = v := by
  have hlen : (dataBits v).length = 8 := by simp [dataBits]
  apply BitVec.eq_of_getLsbD_eq
  intro j hj
  rw [getLsbD_foldl_shiftIn (Nat.le_of_eq hlen) r hj, hlen, if_neg (by omega), Nat.add_sub_cancel,
    List.getD_eq_getElem _ _ (by omega)]
  simp [dataBits]

/-- A whole frame: the stop-bit check on the byte received. -/
theorem receive_frame {u : Sci} (hre : u.re = true) (hwu : u.wu = false) (hst : u.rxst = .idle) (hprev : u.rxprev = true)
    (v : Byte) (stop : Bool) :
    ∃ w : Sci, receive u ([false] ++ dataBits v ++ [stop]) = { w.rxStop stop with rxprev := stop } ∧
      w.rsr = v ∧ w.rdr = u.rdr ∧ w.trcsr = u.trcsr := by
  rw [receive_append, receive_append, receive_start hre hwu hst hprev,
    receive_bitsLeft (u := { u with rxdLine := false, rxprev := false, rxst := .bitsLeft 8 }) hre hwu
      (bits := dataBits v) (by simp [dataBits]) (by simp [dataBits])]
  rw [receive_stop]
  · exact ⟨_, rfl, foldl_shiftIn_dataBits .., rfl, rfl⟩
  · exact hre
  · exact hwu
  · rfl

/-- Settles O58: the three cases of the stop-bit check. -/
theorem receiverTakesTheFrame : Obligations.ReceiverTakesTheFrame := by
  intro u v stop hre hwu hst hprev
  obtain ⟨w, hframe, hrsr, hrdr, htrcsr⟩ := receive_frame hre hwu hst hprev v stop
  have hrdrf : w.rdrf = u.rdrf := by rw [Sci.rdrf, htrcsr, Sci.rdrf]
  simp only [hframe, Sci.rxStop, hrdrf]
  cases h : u.rdrf with
  | true =>
    refine ⟨rfl, trivial, ?_, fun _ => ⟨hrdr, ?_, ?_⟩, nofun, nofun⟩
    · exact (or_and_of_and_eq_zero (by decide)).trans (congrArg (· &&& 0x3F#8) htrcsr)
    · simpa [Sci.rdrf, htrcsr] using h
    · simp [Sci.orfe]
  | false =>
    cases stop with
    | true =>
      refine ⟨rfl, trivial, ?_, nofun, fun _ _ => ⟨hrsr, ?_, ?_⟩, nofun⟩
      · exact (or_and_of_and_eq_zero (by decide)).trans (congrArg (· &&& 0x3F#8) htrcsr)
      · simp [Sci.rdrf]
      · simp [Sci.orfe, htrcsr]
    | false =>
      refine ⟨rfl, trivial, ?_, nofun, nofun, fun _ _ => ⟨hrsr, ?_, ?_⟩⟩
      · exact (or_and_of_and_eq_zero (by decide)).trans (congrArg (· &&& 0x3F#8) htrcsr)
      · simpa [Sci.rdrf, htrcsr] using h
      · simp [Sci.orfe]

/-! The wire (R331, R360): what the receiver keeps sees nothing of the transmitter but its line. -/

/-- The receiver's part of the UART: the transmitter's at fixed values, and `TDRE` clear. -/
def Sci.rxView (u : Sci) : Sci :=
  { u with
    rmcr := 0x0#4, tdr := 0x00#8, tsr := 0x00#8, txst := .idle, sdiv := 0, txdLine := true
    trcsr := u.trcsr &&& 0xDF#8 }

section
variable (u : Sci) (l : Bool)

theorem Sci.re_rxView : u.rxView.re = u.re := by simp [Sci.re, Sci.rxView]
theorem Sci.wu_rxView : u.rxView.wu = u.wu := by simp [Sci.wu, Sci.rxView]
theorem Sci.rdrf_rxView : u.rxView.rdrf = u.rdrf := by simp [Sci.rdrf, Sci.rxView]
theorem Sci.orfe_rxView : u.rxView.orfe = u.orfe := by simp [Sci.orfe, Sci.rxView]

theorem Sci.txTick_rxView : u.txTick.rxView = u.rxView := by
  have htrcsr : u.txTick.trcsr &&& 0xDF#8 = u.trcsr &&& 0xDF#8 := by
    rcases u.txTick_trcsr with h | h
    · rw [h]
    · rw [h, or_and_of_and_eq_zero (by decide)]
  rw [Sci.txTick_frame, Sci.rxView, htrcsr]
  rfl

theorem Sci.rxWakeUp_rxView : u.rxView.rxWakeUp l = (u.rxWakeUp l).rxView := by
  have hmask : u.trcsr &&& 0xDF#8 &&& 0xFE#8 = u.trcsr &&& 0xFE#8 &&& 0xDF#8 := by
    rw [BitVec.and_assoc, BitVec.and_comm 0xDF#8, BitVec.and_assoc]
  simp only [Sci.rxWakeUp, apply_ite Sci.rxView]
  simp only [Sci.rxView, hmask]

theorem or_and_mask {x y m : Byte} (h : y &&& m = y) : x &&& m ||| y = (x ||| y) &&& m := by
  rw [BitVec.and_or_distrib_right, h]

theorem Sci.rxStop_rxView : u.rxView.rxStop l = (u.rxStop l).rxView := by
  simp only [Sci.rxStop, apply_ite Sci.rxView, Sci.rdrf_rxView]
  simp only [Sci.rxView, or_and_mask (y := 0x40#8) (m := 0xDF#8) (by decide),
    or_and_mask (y := 0x80#8) (m := 0xDF#8) (by decide)]

theorem Sci.rxFrame_rxView : u.rxView.rxFrame l = (u.rxFrame l).rxView := by
  have hst : u.rxView.rxst = u.rxst := rfl
  unfold Sci.rxFrame
  rw [hst]
  cases u.rxst with
  | idle => simp only [apply_ite Sci.rxView]; rfl
  | data i => rfl
  | stop => exact u.rxStop_rxView l

theorem Sci.rxTick_rxView : u.rxView.rxTick = u.rxTick.rxView := by
  cases hre : u.re with
  | false => rw [Sci.rxTick_off hre, Sci.rxTick_off (u.re_rxView.trans hre)]; rfl
  | true =>
    cases hwu : u.wu with
    | true =>
      rw [Sci.rxTick_waking hre hwu, Sci.rxTick_waking (u.re_rxView.trans hre) (u.wu_rxView.trans hwu),
        Sci.rxWakeUp_rxView]
      rfl
    | false =>
      rw [Sci.rxTick_receiving hre hwu, Sci.rxTick_receiving (u.re_rxView.trans hre) (u.wu_rxView.trans hwu),
        Sci.rxFrame_rxView]
      rfl

end

/-- With the wire the receiver samples the level that the transmitter's half of the tick left. -/
theorem Sci.tick_rxView {c : Config} (hloop : c.loopback = true) (u : Sci) :
    (u.tick c).rxView = { u.rxView with rxdLine := (u.tick c).txdLine }.rxTick := by
  obtain ⟨-, hline, -, -⟩ := u.tick_transmitter c
  have hview : ({ u.txTick with rxdLine := u.txTick.txdLine } : Sci).rxView =
      { u.rxView with rxdLine := u.txTick.txdLine } := by
    rw [← u.txTick_rxView]
    rfl
  rw [hline, ← hview, Sci.rxTick_rxView, Sci.tick, Sci.wire, if_pos hloop]

/-- With the wire, ticks receive the levels that they send. -/
theorem ticks_rxView {c : Config} (hloop : c.loopback = true) (n : Nat) (u : Sci) :
    (ticks c n u).rxView = receive u.rxView (txdLevels c n u) := by
  induction n generalizing u with
  | zero => rfl
  | succ n ih => rw [ticks, ih, Sci.tick_rxView hloop, txdLevels, receive]

/-- Settles O59: the frame that the transmitter sends is the frame that the receiver takes. -/
theorem serialLoopbackReturnsEveryByte : Obligations.SerialLoopbackReturnsEveryByte := by
  intro c u v hloop hte hre hwu htxst hrxst hprev hrdrf horfe
  have htdre : (u.writeTdr v).tdre = false := by simp [Sci.writeTdr, Sci.tdre]
  have hte' : (u.writeTdr v).te = true := by simpa [Sci.writeTdr, Sci.te] using hte
  have hre' : (u.writeTdr v).re = true := by simpa [Sci.writeTdr, Sci.re] using hre
  have hwu' : (u.writeTdr v).wu = false := by simpa [Sci.writeTdr, Sci.wu] using hwu
  have hrdrf' : (u.writeTdr v).rdrf = false := by simpa [Sci.writeTdr, Sci.rdrf] using hrdrf
  have horfe' : (u.writeTdr v).orfe = false := by simpa [Sci.writeTdr, Sci.orfe] using horfe
  obtain ⟨hlevels, -, hset, hidle, -⟩ := transmitterSendsTheFrame.2 c _ hte' htxst htdre
  have hreceived := receiverTakesTheFrame (u.writeTdr v).rxView v true ((Sci.re_rxView _).trans hre')
    ((Sci.wu_rxView _).trans hwu') hrxst hprev
  have hwire := ticks_rxView hloop 10 (u.writeTdr v)
  rw [hlevels] at hwire
  change _ = receive _ ([false] ++ dataBits v ++ [true]) at hwire
  obtain ⟨hrxidle, -, -, -, hgood, -⟩ := hreceived
  obtain ⟨hrdr, hfull, hnoerr⟩ := hgood ((Sci.rdrf_rxView _).trans hrdrf') rfl
  rw [← hwire] at hrxidle hrdr hfull hnoerr
  rw [Sci.rdrf_rxView] at hfull
  rw [Sci.orfe_rxView, Sci.orfe_rxView, horfe'] at hnoerr
  exact ⟨hrdr, hfull, hnoerr, hset, hidle, hrxidle⟩

/-! The wake-up hold (R347). -/

theorem receive_waking {u : Sci} (hre : u.re = true) (hwu : u.wu = true) (l : Bool) :
    receive u [l] = { { u with rxdLine := l }.rxWakeUp l with rxprev := l } := by
  rw [receive, receive, Sci.rxTick_waking (u := { u with rxdLine := l }) hre hwu]

/-- Fewer than ten high samples are counted. -/
theorem receive_high {u : Sci} (hre : u.re = true) (hwu : u.wu = true) {k : Nat} (hk : u.wucnt + k < 10) :
    (receive u (List.replicate k true)).trcsr = u.trcsr ∧ (receive u (List.replicate k true)).wucnt = u.wucnt + k := by
  induction k generalizing u with
  | zero => exact ⟨rfl, rfl⟩
  | succ k ih =>
    have hone : { u with rxdLine := true }.rxTick = { u with rxdLine := true, rxprev := true, wucnt := u.wucnt + 1 } := by
      rw [Sci.rxTick_waking (u := { u with rxdLine := true }) hre hwu, Sci.rxWakeUp, if_pos rfl,
        if_neg (show ¬u.wucnt + 1 = 10 by omega)]
    rw [List.replicate_succ, receive, hone]
    obtain ⟨htrcsr, hcount⟩ := ih (u := { u with rxdLine := true, rxprev := true, wucnt := u.wucnt + 1 }) hre hwu
      (by change u.wucnt + 1 + k < 10; omega)
    exact ⟨htrcsr, hcount.trans (Nat.add_right_comm u.wucnt 1 k)⟩

/-- Settles O60: samples below ten are counted, and the tenth ends the hold. -/
theorem wakeUpNeedsTenHighSamples : Obligations.WakeUpNeedsTenHighSamples := by
  intro u hwu
  refine ⟨fun hre => ?_, fun hre hzero => ⟨fun k hk => ?_, ?_⟩, fun l => ?_⟩
  · rw [receive_waking hre hwu]
    exact ⟨rfl, hwu⟩
  · obtain ⟨htrcsr, hcount⟩ := receive_high hre hwu (k := k) (by omega)
    exact ⟨by rw [Sci.wu, htrcsr]; exact hwu, by omega⟩
  · obtain ⟨htrcsr, hcount⟩ := receive_high hre hwu (k := 9) (by omega)
    rw [List.replicate_succ', receive_append]
    generalize receive u (List.replicate 9 true) = w at htrcsr hcount
    rw [receive_waking (by rw [Sci.re, htrcsr]; exact hre) (by rw [Sci.wu, htrcsr]; exact hwu), Sci.rxWakeUp, if_pos rfl,
      if_pos (by simp; omega)]
    exact ⟨by simp [Sci.wu], rfl, rfl⟩
  · cases hre : u.re with
    | false =>
      have hoff : receive u [l] = { u with rxdLine := l, rxprev := l } :=
        Sci.rxTick_off (u := { u with rxdLine := l }) hre
      rw [hoff]
      exact ⟨rfl, rfl, rfl, rfl, fun _ => ⟨rfl, hwu⟩⟩
    | true =>
      rw [receive_waking hre hwu]
      cases l with
      | false => exact ⟨rfl, rfl, rfl, rfl, nofun⟩
      | true =>
        simp only [Sci.rxWakeUp, if_true]
        split
        · exact ⟨rfl, rfl, by simp [Sci.rdrf], by simp [Sci.orfe], nofun⟩
        · exact ⟨rfl, rfl, rfl, rfl, nofun⟩

end Sys2Proof.Machine

/-!
Proofs that steps and host operations keep the invariant (spec/10_state.md, spec/40_dispatch_fsm.md section 3).

The invariant speaks of the configuration, external memory and the two peripherals, so it is kept by each access to memory,
by the advance of each peripheral, and by every change of the registers.
-/

namespace Sys2Proof.Machine

open Sys2Proof.Claims Sys2Proof.Laws

/-! The UART (R43). -/

section
variable {c : Config} {u : Sci}

theorem Sci.Inv.tick (h : u.Inv c) : (u.tick c).Inv c := by
  obtain ⟨hsdiv, hwucnt, htx, hidle, hrx⟩ := h
  obtain ⟨hsdiv', hrmcr, -⟩ := u.tick_keeps c
  obtain ⟨hwucnt', htx', hidle', hrx'⟩ := Sci.tick_inv c u hwucnt htx hidle hrx
  exact ⟨by rwa [hsdiv', Sci.divisor_eq_of_rmcr c hrmcr], hwucnt', htx', hidle', hrx'⟩

theorem Sci.Inv.ticks (h : u.Inv c) (n : Nat) : (ticks c n u).Inv c := by
  induction n generalizing u with
  | zero => exact h
  | succ n ih => exact ih h.tick

theorem ticks_rmcr (n : Nat) (u : Sci) : (ticks c n u).rmcr = u.rmcr := by
  induction n generalizing u with
  | zero => rfl
  | succ n ih => exact (ih _).trans (u.tick_keeps c).2.1

theorem Sci.Inv.advance (hwf : c.wf = true) (h : u.Inv c) (n : Nat) : (u.advance c n).Inv c := by
  obtain ⟨hinternal, hexternal, -⟩ := serialAdvanceMakesTicks c u n hwf
  cases hclock : u.externalClock with
  | true => rwa [(hexternal hclock).1]
  | false =>
    rw [hinternal hclock]
    refine { h.ticks ((u.sdiv + n) / u.divisor c) with sdiv_lt := ?_ }
    exact (Nat.mod_lt _ (Sci.divisor_pos hwf u)).trans_eq (Sci.divisor_eq_of_rmcr c (ticks_rmcr _ u)).symm

theorem Sci.Inv.clock (h : u.Inv c) : (u.clock c).Inv c := by
  unfold Sci.clock
  split
  · exact h.tick
  · exact h

theorem Sci.Inv.writeRmcr (hwf : c.wf = true) (h : u.Inv c) (v : Byte) : (u.writeRmcr v).Inv c :=
  { h with sdiv_lt := Sci.divisor_pos hwf _ }

theorem Sci.Inv.writeTrcsr (h : u.Inv c) (v : Byte) : (u.writeTrcsr v).Inv c := by
  obtain ⟨hsdiv, hwucnt, htx, hidle, hrx⟩ := h
  rw [Sci.writeTrcsr_eq_trcsrWritten]
  refine ⟨hsdiv, ?_, fun hte => ?_, fun hst => ?_, fun hre => ?_⟩
  · change (if v.getLsbD 0 && !u.trcsr.getLsbD 0 then 0 else u.wucnt) < 10
    split <;> omega
  · have hbit : v.getLsbD 1 = false := by simpa [Sci.te, trcsrWritten] using hte
    change (if v.getLsbD 1 then u.txst else .idle) = FrameState.idle
    rw [hbit]
    rfl
  · change (if v.getLsbD 1 then u.txst else .idle) = FrameState.idle at hst
    change (if v.getLsbD 1 then u.txdLine else true) = true
    split
    next hbit => exact hidle (by rwa [if_pos hbit] at hst)
    next => rfl
  · have hbit : v.getLsbD 2 = false := by simpa [Sci.re, trcsrWritten] using hre
    change (if v.getLsbD 2 && u.trcsr.getLsbD 2 then u.rxst else .idle) = FrameState.idle
    rw [hbit]
    rfl

/-- Writes of the flags leave the enables, and so the invariant, as they were. -/
theorem Sci.Inv.of_flags (h : u.Inv c) {m : Byte} (hte : m.getLsbD 1 = true) (hre : m.getLsbD 2 = true) :
    ({ u with trcsr := u.trcsr &&& m } : Sci).Inv c :=
  { h with
    tx_off := fun hoff => h.tx_off (by rwa [Sci.te, BitVec.getLsbD_and, hte, Bool.and_true] at hoff)
    rx_off := fun hoff => h.rx_off (by rwa [Sci.re, BitVec.getLsbD_and, hre, Bool.and_true] at hoff) }

theorem Sci.Inv.takeRdr (h : u.Inv c) : u.takeRdr.Inv c := h.of_flags (by decide) (by decide)

theorem Sci.Inv.writeTdr (h : u.Inv c) (v : Byte) : (u.writeTdr v).Inv c :=
  { h.of_flags (m := 0xDF#8) (by decide) (by decide) with }

theorem Sci.Inv.afterReset (hwf : c.wf = true) (rdr tdr tsr rsr : Byte) : (u.afterReset rdr tdr tsr rsr).Inv c :=
  ⟨Sci.divisor_pos hwf _, Nat.succ_pos 9, fun _ => rfl, fun _ => rfl, fun _ => rfl⟩

end

/-! Accesses to memory. -/

section
variable {s t : State}

/-- The invariant speaks of the configuration, external memory and the peripherals alone. -/
theorem State.Inv.of_eq (h : s.Inv) (hcfg : t.cfg = s.cfg) (hmem : t.mem = s.mem) (htim : t.tim = s.tim)
    (hsci : t.sci = s.sci) : t.Inv :=
  ⟨hcfg ▸ h.cfg_wf, hmem ▸ h.mem_wf, htim ▸ h.tim_inv, by rw [hsci, hcfg]; exact h.sci_inv⟩

theorem State.Inv.windowReadEffect (h : s.Inv) (r : WindowReg) : (s.windowReadEffect r).Inv := by
  cases r with
  | tcsr => exact { h with tim_inv := .armFlags s.tim }
  | ch | ocrh | icrh => exact { h with tim_inv := h.tim_inv.clearIfArmed _ }
  | cl =>
    change (if s.cfg.clFallthrough then { s with tim := s.tim.clearIfArmed .ocf } else s).Inv
    split
    · exact { h with tim_inv := h.tim_inv.clearIfArmed _ }
    · exact h
  | rdr => exact { h with sci_inv := h.sci_inv.takeRdr }
  | ocrl | icrl | rmcr | trcsr | tdr => exact h

theorem State.Inv.windowWrite (h : s.Inv) (r : WindowReg) (v : Byte) : (s.windowWrite r v).Inv := by
  cases r with
  | tcsr => exact { h with tim_inv := h.tim_inv.writeTcsr v }
  | ch | cl => exact { h with tim_inv := h.tim_inv }
  | ocrh =>
    exact { h with
      tim_inv := Timer.Inv.clearIfArmed (t := { s.tim with ocr := joinBytes v (loByte s.tim.ocr) }) h.tim_inv .ocf }
  | ocrl =>
    exact { h with
      tim_inv := Timer.Inv.clearIfArmed (t := { s.tim with ocr := joinBytes (hiByte s.tim.ocr) v }) h.tim_inv .ocf }
  | rmcr => exact { h with sci_inv := h.sci_inv.writeRmcr h.cfg_wf v }
  | trcsr => exact { h with sci_inv := h.sci_inv.writeTrcsr v }
  | tdr => exact { h with sci_inv := h.sci_inv.writeTdr v }
  | icrh | icrl | rdr => exact h

theorem State.Inv.readEffect (h : s.Inv) (addr : Word) : (s.readEffect addr).Inv := by
  unfold State.readEffect
  split
  next r hw => exact h.windowReadEffect r
  next hw => unfold State.extReadEffect; split <;> exact { h with }

theorem State.Inv.write8 (h : s.Inv) (addr : Word) (v : Byte) : (s.write8 addr v).Inv := by
  cases hw : windowReg s.cfg addr with
  | some r => simpa [State.write8, hw] using h.windowWrite r v
  | none =>
    obtain ⟨htim, hsci⟩ := State.write8_unclaimed v hw
    exact ⟨by rw [State.write8_cfg]; exact h.cfg_wf, State.write8_mem_wf addr v h.mem_wf, htim ▸ h.tim_inv,
      by rw [hsci, State.write8_cfg]; exact h.sci_inv⟩

theorem State.Inv.readUp (h : s.Inv) (addr : Word) (n : Nat) : (readUp s addr n).2.Inv := by
  induction n generalizing s addr with
  | zero => exact h
  | succ n ih => exact ih (h.readEffect addr) _

theorem State.Inv.accesses {stores reads : List Word} (h : s.Inv) (haccesses : Accesses stores reads s t) : t.Inv := by
  induction haccesses with
  | start => exact h
  | registers _ hbus ih =>
    obtain ⟨hcfg, htim, hsci, hmem, -⟩ := hbus
    exact ih.of_eq hcfg hmem htim hsci
  | read _ addr _ ih => exact ih.readEffect addr
  | write _ addr v _ ih => exact ih.write8 addr v

/-! What a step does (R121). -/

theorem State.Inv.timerAdvance (h : s.Inv) (n : Nat) : (s.timerAdvance n).Inv := by
  unfold State.timerAdvance
  split
  · exact { h with tim_inv := h.tim_inv.advance n }
  · exact h

theorem State.Inv.serialAdvance (h : s.Inv) (n : Nat) : (s.serialAdvance n).Inv := by
  unfold State.serialAdvance
  split
  · exact { h with sci_inv := h.sci_inv.advance h.cfg_wf n }
  · exact h

theorem State.Inv.account (h : s.Inv) (n : Nat) : (s.account n).Inv := by
  have hcharge (n : Nat) : (s.charge n).Inv := { h with }
  unfold State.account
  split
  · exact hcharge 0
  · exact ((hcharge n).timerAdvance n).serialAdvance n

theorem State.Inv.fetch {op : Byte} {i : Instr} (h : s.Inv) (hfetch : s.fetch = .ok (op, i, t)) : t.Inv := by
  obtain ⟨operands, hmany, -⟩ := State.fetchMany_of_fetch_ok hfetch
  obtain ⟨-, ht⟩ := Prod.ext_iff.mp (State.fetchMany_ok hmany)
  have hread := h.readUp s.pc (slotLength s.cfg op)
  generalize (Claims.readUp s s.pc (slotLength s.cfg op)).2 = u at ht hread
  have ht : t = u.setPc (s.pc + BitVec.ofNat 16 (slotLength s.cfg op)) := ht
  rw [ht]
  exact hread.of_eq rfl rfl rfl rfl

theorem State.Inv.takeInterrupt (h : s.Inv) (src : Source) : (s.takeInterrupt src).Inv := by
  rw [State.takeInterrupt_eq, ← State.interruptEntry_eq]
  have hlatch : State.Inv { s with mode := .run, nmiPend := s.nmiPend && decide (src ≠ .nmi) } := h.of_eq rfl rfl rfl rfl
  exact hlatch.accesses (within_interruptEntry _ (s.cfg.vec src)).accesses

theorem State.Inv.resetSequence (h : s.Inv) : s.resetSequence.Inv := by
  have hregisters : s.resetRegisters.Inv := ⟨h.cfg_wf, h.mem_wf, BitVec.zero_and, .afterReset h.cfg_wf ..⟩
  exact ((hregisters.readEffect s.cfg.vecReset).readEffect (s.cfg.vecReset + 1#16)).of_eq rfl rfl rfl rfl

end

/-- Settles O19: the reset state, part by part. -/
theorem invariantHoldsAtReset : Obligations.InvariantHoldsAtReset where
  cfg_wf := by decide +kernel
  mem_wf := rfl
  tim_inv := rfl
  sci_inv := ⟨by decide, by decide, fun _ => rfl, fun _ => rfl, fun _ => rfl⟩

/-- Settles O20: a step takes the reset, enters an interrupt, waits or runs an instruction, then accounts for it. -/
theorem stepKeepsInvariant : Obligations.StepKeepsInvariant := by
  intro s t hinv hstep
  obtain ⟨-, rfl⟩ | ⟨src, -, -, rfl⟩ | ⟨-, -, rfl⟩ | ⟨-, -, hrun⟩ := step_next hstep
  · exact hinv.resetSequence.account 0
  · exact (hinv.takeInterrupt src).account _
  · exact hinv.account 1
  · obtain ⟨op, i, u, v, hfetch, hexec, rfl⟩ := State.runInstruction_next hrun
    exact ((hinv.fetch hfetch).accesses (staysWithin i u v hexec).accesses).account _

/-! The host's operations (R141). -/

theorem State.Inv.setLine {s : State} (h : s.Inv) (line : Line) (l : Bool) : (s.setLine line l).Inv := by
  cases line with
  | tin =>
    change (s.setTin l).Inv
    unfold State.setTin
    split
    · exact { h with tim_inv := h.tim_inv.setTin l }
    · exact { h with tim_inv := h.tim_inv }
  | rxd => exact { h with sci_inv := { h.sci_inv with } }
  | reset | nmi | irq => exact { h with }

theorem State.Inv.serialClock {s : State} (h : s.Inv) : s.serialClock.Inv := by
  unfold State.serialClock
  split
  · exact { h with sci_inv := h.sci_inv.clock }
  · exact h

/-- Settles O21: each operation, then the edge of RESET against its stored level. -/
theorem hostOperationsKeepInvariant : Obligations.HostOperationsKeepInvariant := by
  refine ⟨fun s h => ⟨h.setLine, h.resetSequence, h.serialClock, fun n => { h with }⟩, fun s => ⟨fun hlow => ?_,
    fun hhigh => ?_, ?_⟩⟩
  · simp [State.setLine, State.setReset, hlow]
  · simp only [State.setLine, State.setReset, hhigh, Bool.not_true, Bool.false_and, Bool.or_false]
    rw [← hhigh]
  · simp [State.setLine, State.setReset]

end Sys2Proof.Machine

/-!
Proofs about the budget of a run (spec/40_dispatch_fsm.md section 2, spec/90_conflicts.md C2).
-/

namespace Sys2Proof.Machine

open Sys2Proof.Claims Sys2Proof.Laws

/-! What a step can cost (R98, R127). -/

/-- No single cost of a configuration is above 12; those of its operations never are (R98). -/
structure CostsAtMostTwelve (c : Config) : Prop where
  interrupt : c.cInt ≤ 12
  trap : c.cTrap ≤ 12
  illegal : c.cIllegal ≤ 12
  table : ∀ e ∈ c.table, ∀ k, e.2 = .illegal k → k ≤ 12

theorem CostsAtMostTwelve.illegal_entry {c : Config} (h : CostsAtMostTwelve c) {op : Byte} {k : Nat}
    (he : entryOf c op = .illegal k) : k ≤ 12 := by
  unfold entryOf at he
  split at he
  next e hfind => exact h.table e (List.mem_of_find?_eq_some hfind) k he
  next =>
    unfold referenceEntry at he
    split at he
    · cases he
    · split at he
      · cases he
        exact h.illegal
      · split at he <;> cases he

theorem slotCost_le {c : Config} (hwf : c.wf = true) (h : CostsAtMostTwelve c) (op : Byte) : slotCost c op ≤ 12 := by
  unfold slotCost
  cases he : entryOf c op with
  | op slot cycles => exact ((entryOf_cost hwf op).1 slot cycles he).2
  | illegal cycles =>
    cases c.illegalPolicy with
    | nop => exact h.illegal_entry he
    | trap => exact h.trap
  | unspecified => exact Nat.zero_le 12

theorem step_icount_ge {s t : State} (h : CostsAtMostTwelve s.cfg) (hstep : step s = .next t) :
    s.icount - 12 ≤ t.icount := by
  have hwf := cfg_wf_of_step_next hstep
  obtain ⟨-, rfl⟩ | ⟨src, -, -, rfl⟩ | ⟨-, -, rfl⟩ | ⟨-, -, hrun⟩ := step_next hstep
  · rw [State.account_icount, s.resetSequence_progress.1]
    omega
  · rw [State.account_icount, (s.takeInterrupt_progress src).1]
    have := h.interrupt
    omega
  · rw [State.account_icount]
    omega
  · obtain ⟨op, i, u, v, hfetch, hexec, rfl⟩ := State.runInstruction_next hrun
    obtain ⟨operands, hmany, -⟩ := State.fetchMany_of_fetch_ok hfetch
    have hledger : v.ledger = s.ledger := (keepsLedger i u v hexec).trans (State.fetchMany_ledger hmany)
    rw [State.account_icount, (State.progress_of_ledger_eq hledger).1]
    have := slotCost_le hwf h op
    omega

/-! The loop of a run (R137). -/

/-- A run ends with its budget spent, overshoots by less than one step costs, and accounts for every cycle. -/
theorem runLoop_budget {fuel : Nat} {s t : State} (hcosts : CostsAtMostTwelve s.cfg)
    (hrun : runLoop fuel s = some (.next t)) :
    t.icount ≤ 0 ∧ (-12 < s.icount → -12 < t.icount) ∧ t.icount + t.total = s.icount + s.total := by
  fun_induction runLoop fuel s with
  | case1 fuel s hspent =>
    cases hrun
    exact ⟨hspent, id, rfl⟩
  | case3 s hbudget fuel u hstep ih =>
    have hcost := step_icount_ge hcosts hstep
    obtain ⟨-, hcounters, -⟩ := step_progress hstep
    obtain ⟨hspent, hovershoot, hsum⟩ := ih (by rw [step_cfg hstep]; exact hcosts) hrun
    exact ⟨hspent, fun _ => hovershoot (by omega), hsum.trans hcounters⟩
  | case2 | case4 | case5 => cases hrun

/-- Settles O17: the loop ends, and its budget is that of the state with the grant. -/
theorem runStaysWithinBudget : Obligations.RunStaysWithinBudget := by
  intro s n _ hint htrap hillegal htable
  obtain ⟨o, ho⟩ := Option.ne_none_iff_exists'.mp (s.run_ne_none n)
  refine ⟨o, ho, fun t ht => ?_⟩
  rw [ht] at ho
  obtain ⟨hspent, hovershoot, hsum⟩ := runLoop_budget (s := s.grant n) ⟨hint, htrap, hillegal, htable⟩ ho
  change -12 < s.icount + n → _ at hovershoot
  change _ = s.icount + n + s.total at hsum
  refine ⟨hspent, fun hbudget => hovershoot (by omega), by omega, fun hnone => ?_⟩
  rw [State.run, runLoop, if_pos (by exact hnone)] at ho
  cases ho
  rfl

end Sys2Proof.Machine

/-!
Proofs about a wait that the compare interrupt ends (spec/47_timer.md section 7, spec/60_exceptions.md section 6).
-/

namespace Sys2Proof.Machine

open Sys2Proof.Claims Sys2Proof.Laws

/-! What the accounting of a cycle leaves of the peripherals. -/

theorem Timer.tick_advance (t : Timer) (n : Nat) : (t.advance n).tick = t.advance (n + 1) := by
  induction n generalizing t with
  | zero => rfl
  | succ n ih =>
    have hfirst (m : Nat) : t.advance (m + 1) = t.tick.advance m := rfl
    rw [hfirst, hfirst, ih]

theorem Timer.tick_enabled (t : Timer) (f : TFlag) : t.tick.enabled f = t.enabled f := by
  have hwritable : tcsrWritable.getLsbD (f.bit - 3) = true := by cases f <;> rfl
  have hbits := congrArg (fun v : Byte => v.getLsbD (f.bit - 3)) t.tick_writable
  simpa only [Timer.enabled, BitVec.getLsbD_and, hwritable, Bool.and_true] using hbits

theorem Timer.advance_enabled (t : Timer) (n : Nat) (f : TFlag) : (t.advance n).enabled f = t.enabled f :=
  Timer.advance_keeps (·.enabled f) (fun t => t.tick_enabled f) t n

theorem ticks_enables (c : Config) (n : Nat) (u : Sci) :
    (ticks c n u).rie = u.rie ∧ (ticks c n u).tie = u.tie := by
  induction n generalizing u with
  | zero => exact ⟨rfl, rfl⟩
  | succ n ih =>
    obtain ⟨hrie, htie, -, -⟩ := Sci.tick_enables c u
    exact ⟨(ih _).1.trans hrie, (ih _).2.trans htie⟩

theorem Sci.advance_enables {c : Config} (hwf : c.wf = true) (u : Sci) (n : Nat) :
    (u.advance c n).rie = u.rie ∧ (u.advance c n).tie = u.tie := by
  obtain ⟨hinternal, hexternal, -⟩ := serialAdvanceMakesTicks c u n hwf
  cases hclock : u.externalClock with
  | true => simp [(hexternal hclock).1]
  | false =>
    rw [hinternal hclock]
    exact ticks_enables c _ u

theorem mode_of_charged {t u : State} {c : Nat} (h : Charged t u c) : u.mode = t.mode := by
  unfold Charged at h
  rw [h]

theorem stepsTo_succ {s t u : State} {n : Nat} (h : stepsTo s n t) (hstep : step t = .next u) : stepsTo s (n + 1) u := by
  induction n generalizing s with
  | zero =>
    obtain rfl : t = s := h
    exact ⟨u, hstep, rfl⟩
  | succ n ih =>
    obtain ⟨v, hv, hrest⟩ := h
    exact ⟨v, hv, ih hrest⟩

/-! The wait, cycle by cycle. -/

/-- A wait that nothing but the compare interrupt can end. -/
structure WaitsForCompare (s : State) : Prop where
  wf : s.cfg.wf = true
  timer : s.cfg.hasTimer = true
  waiting : s.mode ≠ .run
  quiet : s.poll = none
  unmasked : s.cc.i = false
  eoci : s.tim.enabled .ocf = true
  etoi : s.tim.enabled .tof = false
  rie : s.sci.rie = false
  tie : s.sci.tie = false

/-- What `k` cycles of a wait leave as it was in `s`, and the timer `k` cycles later. -/
structure Waited (s : State) (k : Nat) (v : State) : Prop where
  cfg : v.cfg = s.cfg
  mode : v.mode = s.mode
  pc : v.pc = s.pc
  cc : v.cc = s.cc
  latches : v.rstPend = s.rstPend ∧ v.nmiPend = s.nmiPend
  irqLine : v.irqLine = s.irqLine
  total : v.total = s.total + k
  tim : v.tim = s.tim.advance k
  enables : v.sci.rie = s.sci.rie ∧ v.sci.tie = s.sci.tie

/-- The cycles before the one in which the counter reaches `OCR`. -/
def State.cyclesToCompare (s : State) : Nat := (s.tim.ocr - s.tim.cnt - 1#16).toNat

section
variable {s v : State} {k : Nat}

theorem Waited.start (s : State) : Waited s 0 s :=
  ⟨rfl, rfl, rfl, rfl, ⟨rfl, rfl⟩, rfl, rfl, rfl, ⟨rfl, rfl⟩⟩

theorem Waited.cycle (hs : WaitsForCompare s) (h : Waited s k v) : Waited s (k + 1) (v.account 1) := by
  have hcharged : Charged v (v.account 1) 1 := v.account_charged Nat.one_pos
  have htim : (v.account 1).tim = v.tim.tick := by
    rw [hcharged, h.cfg, hs.timer]
    rfl
  have henables : (v.account 1).sci.rie = v.sci.rie ∧ (v.account 1).sci.tie = v.sci.tie := by
    have hsci : (v.account 1).sci = if v.cfg.hasSci then v.sci.advance v.cfg 1 else v.sci := congrArg State.sci hcharged
    rw [hsci]
    split
    · exact Sci.advance_enables (h.cfg ▸ hs.wf) v.sci 1
    · exact ⟨rfl, rfl⟩
  obtain ⟨hcfg, hmode, hpc, hcc, ⟨hrst, hnmi⟩, hirq, htotal, hadvance, hrie, htie⟩ := h
  exact {
    cfg := by simpa, mode := by simpa, pc := by simpa, cc := by simpa, latches := by simp [hrst, hnmi], irqLine := by simpa
    total := by rw [State.account_total, htotal, Nat.add_assoc]
    tim := by rw [htim, hadvance, Timer.tick_advance]
    enables := ⟨henables.1.trans hrie, henables.2.trans htie⟩ }

/-- During the wait no source but the compare flag requests. -/
theorem Waited.requests_other (hs : WaitsForCompare s) (h : Waited s k v) {src : Source} (hsrc : src ≠ .ocf) :
    v.requests src = false := by
  have hquiet := s.poll_eq_none_iff.mp hs.quiet
  obtain ⟨hcfg, -, -, hcc, ⟨hrst, hnmi⟩, hirq, -, htim, hrie, htie⟩ := h
  cases src with
  | reset => exact hrst.trans (hquiet .reset)
  | nmi => exact hnmi.trans (hquiet .nmi)
  | irq => simpa only [State.requests, hcc, hirq] using hquiet .irq
  | icf =>
    have hflag : (s.tim.advance k).flag .icf = s.tim.flag .icf := (s.tim.advance_flag k .icf).trans (Bool.or_false _)
    simpa only [State.requests, hcc, hcfg, htim, Timer.request, hflag, Timer.advance_enabled] using hquiet .icf
  | ocf => exact absurd rfl hsrc
  | tof => simp [State.requests, htim, Timer.request, Timer.advance_enabled, hs.etoi]
  | sci => simp [State.requests, Sci.request, hrie, htie, hs.rie, hs.tie]

/-- The compare flag requests from the cycle on in which the counter reached `OCR`. -/
theorem Waited.requests_ocf (hs : WaitsForCompare s) (h : Waited s k v) :
    v.requests .ocf = decide (s.cyclesToCompare < k) := by
  have hclear : s.tim.flag .ocf = false := by
    simpa [State.requests, Timer.request, hs.unmasked, hs.timer, hs.eoci] using s.poll_eq_none_iff.mp hs.quiet .ocf
  simp [State.requests, h.cc, h.cfg, h.tim, Timer.request, Timer.advance_enabled, Timer.advance_flag, hs.unmasked, hs.timer,
    hs.eoci, hclear, raisesFlag, State.cyclesToCompare]

theorem Waited.poll_eq_none (hs : WaitsForCompare s) (h : Waited s k v) (hk : k ≤ s.cyclesToCompare) : v.poll = none := by
  refine v.poll_eq_none_iff.mpr fun src => ?_
  by_cases hsrc : src = .ocf
  · rw [hsrc, h.requests_ocf hs, decide_eq_false_iff_not]
    omega
  · exact h.requests_other hs hsrc

theorem Waited.poll_eq_ocf (hs : WaitsForCompare s) (h : Waited s k v) (hk : s.cyclesToCompare < k) :
    v.poll = some .ocf := by
  refine (v.poll_eq_some_iff .ocf).mpr ⟨by rw [h.requests_ocf hs, decide_eq_true hk], fun other hlt => ?_⟩
  refine h.requests_other hs ?_
  rintro rfl
  exact Nat.lt_irrefl _ hlt

/-- The steps of the wait up to the compare are its cycles. -/
theorem WaitsForCompare.stepsTo (hs : WaitsForCompare s) (hk : k ≤ s.cyclesToCompare + 1) :
    ∃ v, stepsTo s k v ∧ Waited s k v := by
  induction k with
  | zero => exact ⟨s, rfl, .start s⟩
  | succ k ih =>
    obtain ⟨v, hsteps, hwaited⟩ := ih (Nat.le_of_succ_le hk)
    have hstep : step v = .next (v.account 1) := step_eq_account_of_waiting (by rw [hwaited.cfg]; exact hs.wf)
      (by rw [hwaited.mode]; exact hs.waiting) (hwaited.poll_eq_none hs (Nat.le_of_succ_le_succ hk))
    exact ⟨_, stepsTo_succ hsteps hstep, hwaited.cycle hs⟩

end

/-- Settles O15: the cycles up to the compare, then the entry that the compare flag requests. -/
theorem waitEndsAtCompareMatch : Obligations.WaitEndsAtCompareMatch := by
  intro s hwf htimer hmode hpoll hmask heoci hetoi hrie htie
  have hs : WaitsForCompare s := ⟨hwf, htimer, hmode, hpoll, hmask, heoci, hetoi, hrie, htie⟩
  refine ⟨fun k hk => ?_, ?_⟩
  · obtain ⟨v, hsteps, hwaited⟩ := hs.stepsTo (Nat.le_succ_of_le hk)
    exact ⟨v, hsteps, hwaited.poll_eq_none hs hk, hwaited.mode, hwaited.pc⟩
  · obtain ⟨t, hsteps, hwaited⟩ := hs.stepsTo (Nat.le_refl _)
    have hocf := hwaited.poll_eq_ocf hs (Nat.lt_succ_self _)
    obtain ⟨u, hstep, hcharged⟩ := interruptIsTakenByTheStep t .ocf (by rw [hwaited.cfg]; exact hwf) hocf nofun
    have hcnt : t.tim.cnt = s.tim.ocr := by
      rw [hwaited.tim, Timer.advance_cnt, BitVec.ofNat_add, State.cyclesToCompare, BitVec.ofNat_toNat, BitVec.setWidth_eq]
      bv_omega
    have hlatch : (t.nmiPend && decide (Source.ocf ≠ .nmi)) = t.nmiPend := Bool.and_true _
    have hvec : t.cfg.vec .ocf = s.cfg.vecOcf := congrArg Config.vecOcf hwaited.cfg
    have hcost : t.cfg.cInt = s.cfg.cInt := congrArg Config.cInt hwaited.cfg
    rw [hlatch, hvec, hcost] at hcharged
    refine ⟨t, u, hsteps, hcnt, hwaited.total, hwaited.mode, hwaited.pc, hocf, hstep, ?_, hcharged⟩
    obtain ⟨⟨-, -, -, -, hrunning, -⟩, -⟩ := within_interruptEntry { t with mode := .run } s.cfg.vecOcf
    rw [State.interruptEntry_eq] at hrunning
    exact (mode_of_charged hcharged).trans (hrunning rfl)

end Sys2Proof.Machine
